-- ==== Sys2Proof/Word.lean ====
section
/-! DEFINITION. The two word types of the machine: an 8-bit datum and a 16-bit address (R9, R50). Both wrap. -/

namespace Sys2Proof

/-- An 8-bit datum: the registers A, X, Y, S and one byte of memory (R9, R50). -/
abbrev Byte := BitVec 8

/-- A 16-bit quantity: PC and every address (R9, R50). -/
abbrev Word := BitVec 16

end Sys2Proof
end

