-- ==== Sys2Proof/Machine/Bits.lean ====
section
/-! DEFINITION. The notation of 00_scope.md R12 on bytes and addresses: hi, lo, w16, zext and sext. -/

namespace Sys2Proof.Machine

/-- hi(w) = w[15:8] (R12). -/
def hi (w : Word) : Byte := w.extractLsb' 8 8

/-- lo(w) = w[7:0] (R12). -/
def lo (w : Word) : Byte := w.extractLsb' 0 8

/-- w16(h, l) = h ++ l, the high byte first (R12). -/
def w16 (h l : Byte) : Word := h ++ l

/-- zext_16(v) (R12). -/
def zext16 (v : Byte) : Word := v.setWidth 16

/-- sext_16(v): two's-complement sign extension (R12). -/
def sext16 (v : Byte) : Word := v.signExtend 16

end Sys2Proof.Machine
end

