-- ==== Sys2Proof/Syntax.lean ====
section
/-! DEFINITION. The instructions of spec/opcode_table.json: one constructor of Instr for each of its 151 rows, the 56 mnemonics
(R102), the 13 addressing modes (R81), and the operand each row carries. Registers are implied by the opcode (R80), so a
constructor holds only the operand bytes: a byte, or a 16-bit address already assembled low byte first (R82). -/

namespace Sys2Proof

/-- The operation kinds: the 56 mnemonics (R102). -/
inductive Mnemonic where
  | LDA | LDX | LDY | STA | STX | STY | TAX | TAY | TXA | TYA | TSX | TXS
  | ADC | SBC | AND | ORA | EOR | CMP | CPX | CPY | BIT | INC | DEC | INX | INY | DEX | DEY
  | ASL | LSR | ROL | ROR
  | CLC | SEC | CLI | SEI | CLV | CLD | SED | NOP
  | BPL | BMI | BVC | BVS | BCC | BCS | BNE | BEQ | JMP | JSR | RTS
  | PHA | PHP | PLA | PLP | BRK | RTI
  deriving DecidableEq, Repr

/-- The 13 addressing modes (R81). -/
inductive Mode where
  | implied | accumulator | immediate | zeroPage | zeroPageX | zeroPageY | absolute | absoluteX | absoluteY | indirect | indirectX | indirectY | relative
  deriving DecidableEq, Repr

/-- An operand that names a place in memory, in the nine modes that do (R88-R96). -/
inductive MemRef where
  | zeroPage (b : Byte)
  | zeroPageX (b : Byte)
  | zeroPageY (b : Byte)
  | absolute (w : Word)
  | absoluteX (w : Word)
  | absoluteY (w : Word)
  | indirect (w : Word)
  | indirectX (b : Byte)
  | indirectY (b : Byte)
  deriving DecidableEq, Repr

/-- The mode of a memory operand. -/
def MemRef.mode : MemRef → Mode
  | .zeroPage _ => .zeroPage
  | .zeroPageX _ => .zeroPageX
  | .zeroPageY _ => .zeroPageY
  | .absolute _ => .absolute
  | .absoluteX _ => .absoluteX
  | .absoluteY _ => .absoluteY
  | .indirect _ => .indirect
  | .indirectX _ => .indirectX
  | .indirectY _ => .indirectY

/-- An operand of any mode. -/
inductive Operand where
  | implied
  | accumulator
  | immediate (v : Byte)
  | memory (r : MemRef)
  | relative (d : Byte)
  deriving DecidableEq, Repr

/-- The addressing mode of an operand. -/
def Operand.mode : Operand → Mode
  | .implied => .implied
  | .accumulator => .accumulator
  | .immediate _ => .immediate
  | .memory r => r.mode
  | .relative _ => .relative

/-- The instructions: one constructor for each row of the opcode table. `v` is an immediate value, `b` a zero-page address or
base, `w` a 16-bit address, base or pointer, `d` a displacement. -/
inductive Instr where
  -- LDA (R140)
  | ldaImmediate (v : Byte)
  | ldaZeroPage (b : Byte)
  | ldaZeroPageX (b : Byte)
  | ldaAbsolute (w : Word)
  | ldaAbsoluteX (w : Word)
  | ldaAbsoluteY (w : Word)
  | ldaIndirectX (b : Byte)
  | ldaIndirectY (b : Byte)
  -- LDX (R141)
  | ldxImmediate (v : Byte)
  | ldxZeroPage (b : Byte)
  | ldxZeroPageY (b : Byte)
  | ldxAbsolute (w : Word)
  | ldxAbsoluteY (w : Word)
  -- LDY (R142)
  | ldyImmediate (v : Byte)
  | ldyZeroPage (b : Byte)
  | ldyZeroPageX (b : Byte)
  | ldyAbsolute (w : Word)
  | ldyAbsoluteX (w : Word)
  -- STA (R143)
  | staZeroPage (b : Byte)
  | staZeroPageX (b : Byte)
  | staAbsolute (w : Word)
  | staAbsoluteX (w : Word)
  | staAbsoluteY (w : Word)
  | staIndirectX (b : Byte)
  | staIndirectY (b : Byte)
  -- STX (R144)
  | stxZeroPage (b : Byte)
  | stxZeroPageY (b : Byte)
  | stxAbsolute (w : Word)
  -- STY (R145)
  | styZeroPage (b : Byte)
  | styZeroPageX (b : Byte)
  | styAbsolute (w : Word)
  -- TAX (R146)
  | tax
  -- TAY (R147)
  | tay
  -- TXA (R148)
  | txa
  -- TYA (R149)
  | tya
  -- TSX (R150)
  | tsx
  -- TXS (R151)
  | txs
  -- ADC (R163)
  | adcImmediate (v : Byte)
  | adcZeroPage (b : Byte)
  | adcZeroPageX (b : Byte)
  | adcAbsolute (w : Word)
  | adcAbsoluteX (w : Word)
  | adcAbsoluteY (w : Word)
  | adcIndirectX (b : Byte)
  | adcIndirectY (b : Byte)
  -- SBC (R164)
  | sbcImmediate (v : Byte)
  | sbcZeroPage (b : Byte)
  | sbcZeroPageX (b : Byte)
  | sbcAbsolute (w : Word)
  | sbcAbsoluteX (w : Word)
  | sbcAbsoluteY (w : Word)
  | sbcIndirectX (b : Byte)
  | sbcIndirectY (b : Byte)
  -- AND (R165)
  | andImmediate (v : Byte)
  | andZeroPage (b : Byte)
  | andZeroPageX (b : Byte)
  | andAbsolute (w : Word)
  | andAbsoluteX (w : Word)
  | andAbsoluteY (w : Word)
  | andIndirectX (b : Byte)
  | andIndirectY (b : Byte)
  -- ORA (R166)
  | oraImmediate (v : Byte)
  | oraZeroPage (b : Byte)
  | oraZeroPageX (b : Byte)
  | oraAbsolute (w : Word)
  | oraAbsoluteX (w : Word)
  | oraAbsoluteY (w : Word)
  | oraIndirectX (b : Byte)
  | oraIndirectY (b : Byte)
  -- EOR (R167)
  | eorImmediate (v : Byte)
  | eorZeroPage (b : Byte)
  | eorZeroPageX (b : Byte)
  | eorAbsolute (w : Word)
  | eorAbsoluteX (w : Word)
  | eorAbsoluteY (w : Word)
  | eorIndirectX (b : Byte)
  | eorIndirectY (b : Byte)
  -- CMP (R168)
  | cmpImmediate (v : Byte)
  | cmpZeroPage (b : Byte)
  | cmpZeroPageX (b : Byte)
  | cmpAbsolute (w : Word)
  | cmpAbsoluteX (w : Word)
  | cmpAbsoluteY (w : Word)
  | cmpIndirectX (b : Byte)
  | cmpIndirectY (b : Byte)
  -- CPX (R169)
  | cpxImmediate (v : Byte)
  | cpxZeroPage (b : Byte)
  | cpxAbsolute (w : Word)
  -- CPY (R170)
  | cpyImmediate (v : Byte)
  | cpyZeroPage (b : Byte)
  | cpyAbsolute (w : Word)
  -- BIT (R171)
  | bitZeroPage (b : Byte)
  | bitAbsolute (w : Word)
  -- INC (R172)
  | incZeroPage (b : Byte)
  | incZeroPageX (b : Byte)
  | incAbsolute (w : Word)
  | incAbsoluteX (w : Word)
  -- DEC (R173)
  | decZeroPage (b : Byte)
  | decZeroPageX (b : Byte)
  | decAbsolute (w : Word)
  | decAbsoluteX (w : Word)
  -- INX (R174)
  | inx
  -- INY (R175)
  | iny
  -- DEX (R176)
  | dex
  -- DEY (R177)
  | dey
  -- ASL (R191)
  | aslAccumulator
  | aslZeroPage (b : Byte)
  | aslZeroPageX (b : Byte)
  | aslAbsolute (w : Word)
  | aslAbsoluteX (w : Word)
  -- LSR (R192)
  | lsrAccumulator
  | lsrZeroPage (b : Byte)
  | lsrZeroPageX (b : Byte)
  | lsrAbsolute (w : Word)
  | lsrAbsoluteX (w : Word)
  -- ROL (R193)
  | rolAccumulator
  | rolZeroPage (b : Byte)
  | rolZeroPageX (b : Byte)
  | rolAbsolute (w : Word)
  | rolAbsoluteX (w : Word)
  -- ROR (R194)
  | rorAccumulator
  | rorZeroPage (b : Byte)
  | rorZeroPageX (b : Byte)
  | rorAbsolute (w : Word)
  | rorAbsoluteX (w : Word)
  -- CLC (R200)
  | clc
  -- SEC (R201)
  | sec
  -- CLI (R202)
  | cli
  -- SEI (R203)
  | sei
  -- CLV (R204)
  | clv
  -- CLD (R205)
  | cld
  -- SED (R206)
  | sed
  -- NOP (R207)
  | nop
  -- BPL (R211)
  | bpl (d : Byte)
  -- BMI (R212)
  | bmi (d : Byte)
  -- BVC (R213)
  | bvc (d : Byte)
  -- BVS (R214)
  | bvs (d : Byte)
  -- BCC (R215)
  | bcc (d : Byte)
  -- BCS (R216)
  | bcs (d : Byte)
  -- BNE (R217)
  | bne (d : Byte)
  -- BEQ (R218)
  | beq (d : Byte)
  -- JMP (R219)
  | jmpAbsolute (w : Word)
  | jmpIndirect (w : Word)
  -- JSR (R220)
  | jsr (w : Word)
  -- RTS (R221)
  | rts
  -- PHA (R233)
  | pha
  -- PHP (R234)
  | php
  -- PLA (R235)
  | pla
  -- PLP (R236)
  | plp
  -- BRK (R237)
  | brk
  -- RTI (R238)
  | rti
  deriving DecidableEq, Repr

/-- The operation kind of an instruction. -/
def Instr.mnemonic : Instr → Mnemonic
  | .ldaImmediate _ => .LDA
  | .ldaZeroPage _ => .LDA
  | .ldaZeroPageX _ => .LDA
  | .ldaAbsolute _ => .LDA
  | .ldaAbsoluteX _ => .LDA
  | .ldaAbsoluteY _ => .LDA
  | .ldaIndirectX _ => .LDA
  | .ldaIndirectY _ => .LDA
  | .ldxImmediate _ => .LDX
  | .ldxZeroPage _ => .LDX
  | .ldxZeroPageY _ => .LDX
  | .ldxAbsolute _ => .LDX
  | .ldxAbsoluteY _ => .LDX
  | .ldyImmediate _ => .LDY
  | .ldyZeroPage _ => .LDY
  | .ldyZeroPageX _ => .LDY
  | .ldyAbsolute _ => .LDY
  | .ldyAbsoluteX _ => .LDY
  | .staZeroPage _ => .STA
  | .staZeroPageX _ => .STA
  | .staAbsolute _ => .STA
  | .staAbsoluteX _ => .STA
  | .staAbsoluteY _ => .STA
  | .staIndirectX _ => .STA
  | .staIndirectY _ => .STA
  | .stxZeroPage _ => .STX
  | .stxZeroPageY _ => .STX
  | .stxAbsolute _ => .STX
  | .styZeroPage _ => .STY
  | .styZeroPageX _ => .STY
  | .styAbsolute _ => .STY
  | .tax => .TAX
  | .tay => .TAY
  | .txa => .TXA
  | .tya => .TYA
  | .tsx => .TSX
  | .txs => .TXS
  | .adcImmediate _ => .ADC
  | .adcZeroPage _ => .ADC
  | .adcZeroPageX _ => .ADC
  | .adcAbsolute _ => .ADC
  | .adcAbsoluteX _ => .ADC
  | .adcAbsoluteY _ => .ADC
  | .adcIndirectX _ => .ADC
  | .adcIndirectY _ => .ADC
  | .sbcImmediate _ => .SBC
  | .sbcZeroPage _ => .SBC
  | .sbcZeroPageX _ => .SBC
  | .sbcAbsolute _ => .SBC
  | .sbcAbsoluteX _ => .SBC
  | .sbcAbsoluteY _ => .SBC
  | .sbcIndirectX _ => .SBC
  | .sbcIndirectY _ => .SBC
  | .andImmediate _ => .AND
  | .andZeroPage _ => .AND
  | .andZeroPageX _ => .AND
  | .andAbsolute _ => .AND
  | .andAbsoluteX _ => .AND
  | .andAbsoluteY _ => .AND
  | .andIndirectX _ => .AND
  | .andIndirectY _ => .AND
  | .oraImmediate _ => .ORA
  | .oraZeroPage _ => .ORA
  | .oraZeroPageX _ => .ORA
  | .oraAbsolute _ => .ORA
  | .oraAbsoluteX _ => .ORA
  | .oraAbsoluteY _ => .ORA
  | .oraIndirectX _ => .ORA
  | .oraIndirectY _ => .ORA
  | .eorImmediate _ => .EOR
  | .eorZeroPage _ => .EOR
  | .eorZeroPageX _ => .EOR
  | .eorAbsolute _ => .EOR
  | .eorAbsoluteX _ => .EOR
  | .eorAbsoluteY _ => .EOR
  | .eorIndirectX _ => .EOR
  | .eorIndirectY _ => .EOR
  | .cmpImmediate _ => .CMP
  | .cmpZeroPage _ => .CMP
  | .cmpZeroPageX _ => .CMP
  | .cmpAbsolute _ => .CMP
  | .cmpAbsoluteX _ => .CMP
  | .cmpAbsoluteY _ => .CMP
  | .cmpIndirectX _ => .CMP
  | .cmpIndirectY _ => .CMP
  | .cpxImmediate _ => .CPX
  | .cpxZeroPage _ => .CPX
  | .cpxAbsolute _ => .CPX
  | .cpyImmediate _ => .CPY
  | .cpyZeroPage _ => .CPY
  | .cpyAbsolute _ => .CPY
  | .bitZeroPage _ => .BIT
  | .bitAbsolute _ => .BIT
  | .incZeroPage _ => .INC
  | .incZeroPageX _ => .INC
  | .incAbsolute _ => .INC
  | .incAbsoluteX _ => .INC
  | .decZeroPage _ => .DEC
  | .decZeroPageX _ => .DEC
  | .decAbsolute _ => .DEC
  | .decAbsoluteX _ => .DEC
  | .inx => .INX
  | .iny => .INY
  | .dex => .DEX
  | .dey => .DEY
  | .aslAccumulator => .ASL
  | .aslZeroPage _ => .ASL
  | .aslZeroPageX _ => .ASL
  | .aslAbsolute _ => .ASL
  | .aslAbsoluteX _ => .ASL
  | .lsrAccumulator => .LSR
  | .lsrZeroPage _ => .LSR
  | .lsrZeroPageX _ => .LSR
  | .lsrAbsolute _ => .LSR
  | .lsrAbsoluteX _ => .LSR
  | .rolAccumulator => .ROL
  | .rolZeroPage _ => .ROL
  | .rolZeroPageX _ => .ROL
  | .rolAbsolute _ => .ROL
  | .rolAbsoluteX _ => .ROL
  | .rorAccumulator => .ROR
  | .rorZeroPage _ => .ROR
  | .rorZeroPageX _ => .ROR
  | .rorAbsolute _ => .ROR
  | .rorAbsoluteX _ => .ROR
  | .clc => .CLC
  | .sec => .SEC
  | .cli => .CLI
  | .sei => .SEI
  | .clv => .CLV
  | .cld => .CLD
  | .sed => .SED
  | .nop => .NOP
  | .bpl _ => .BPL
  | .bmi _ => .BMI
  | .bvc _ => .BVC
  | .bvs _ => .BVS
  | .bcc _ => .BCC
  | .bcs _ => .BCS
  | .bne _ => .BNE
  | .beq _ => .BEQ
  | .jmpAbsolute _ => .JMP
  | .jmpIndirect _ => .JMP
  | .jsr _ => .JSR
  | .rts => .RTS
  | .pha => .PHA
  | .php => .PHP
  | .pla => .PLA
  | .plp => .PLP
  | .brk => .BRK
  | .rti => .RTI

/-- The operand of an instruction, with its addressing mode. -/
def Instr.operand : Instr → Operand
  | .ldaImmediate v => .immediate v
  | .ldaZeroPage b => .memory (.zeroPage b)
  | .ldaZeroPageX b => .memory (.zeroPageX b)
  | .ldaAbsolute w => .memory (.absolute w)
  | .ldaAbsoluteX w => .memory (.absoluteX w)
  | .ldaAbsoluteY w => .memory (.absoluteY w)
  | .ldaIndirectX b => .memory (.indirectX b)
  | .ldaIndirectY b => .memory (.indirectY b)
  | .ldxImmediate v => .immediate v
  | .ldxZeroPage b => .memory (.zeroPage b)
  | .ldxZeroPageY b => .memory (.zeroPageY b)
  | .ldxAbsolute w => .memory (.absolute w)
  | .ldxAbsoluteY w => .memory (.absoluteY w)
  | .ldyImmediate v => .immediate v
  | .ldyZeroPage b => .memory (.zeroPage b)
  | .ldyZeroPageX b => .memory (.zeroPageX b)
  | .ldyAbsolute w => .memory (.absolute w)
  | .ldyAbsoluteX w => .memory (.absoluteX w)
  | .staZeroPage b => .memory (.zeroPage b)
  | .staZeroPageX b => .memory (.zeroPageX b)
  | .staAbsolute w => .memory (.absolute w)
  | .staAbsoluteX w => .memory (.absoluteX w)
  | .staAbsoluteY w => .memory (.absoluteY w)
  | .staIndirectX b => .memory (.indirectX b)
  | .staIndirectY b => .memory (.indirectY b)
  | .stxZeroPage b => .memory (.zeroPage b)
  | .stxZeroPageY b => .memory (.zeroPageY b)
  | .stxAbsolute w => .memory (.absolute w)
  | .styZeroPage b => .memory (.zeroPage b)
  | .styZeroPageX b => .memory (.zeroPageX b)
  | .styAbsolute w => .memory (.absolute w)
  | .tax => .implied
  | .tay => .implied
  | .txa => .implied
  | .tya => .implied
  | .tsx => .implied
  | .txs => .implied
  | .adcImmediate v => .immediate v
  | .adcZeroPage b => .memory (.zeroPage b)
  | .adcZeroPageX b => .memory (.zeroPageX b)
  | .adcAbsolute w => .memory (.absolute w)
  | .adcAbsoluteX w => .memory (.absoluteX w)
  | .adcAbsoluteY w => .memory (.absoluteY w)
  | .adcIndirectX b => .memory (.indirectX b)
  | .adcIndirectY b => .memory (.indirectY b)
  | .sbcImmediate v => .immediate v
  | .sbcZeroPage b => .memory (.zeroPage b)
  | .sbcZeroPageX b => .memory (.zeroPageX b)
  | .sbcAbsolute w => .memory (.absolute w)
  | .sbcAbsoluteX w => .memory (.absoluteX w)
  | .sbcAbsoluteY w => .memory (.absoluteY w)
  | .sbcIndirectX b => .memory (.indirectX b)
  | .sbcIndirectY b => .memory (.indirectY b)
  | .andImmediate v => .immediate v
  | .andZeroPage b => .memory (.zeroPage b)
  | .andZeroPageX b => .memory (.zeroPageX b)
  | .andAbsolute w => .memory (.absolute w)
  | .andAbsoluteX w => .memory (.absoluteX w)
  | .andAbsoluteY w => .memory (.absoluteY w)
  | .andIndirectX b => .memory (.indirectX b)
  | .andIndirectY b => .memory (.indirectY b)
  | .oraImmediate v => .immediate v
  | .oraZeroPage b => .memory (.zeroPage b)
  | .oraZeroPageX b => .memory (.zeroPageX b)
  | .oraAbsolute w => .memory (.absolute w)
  | .oraAbsoluteX w => .memory (.absoluteX w)
  | .oraAbsoluteY w => .memory (.absoluteY w)
  | .oraIndirectX b => .memory (.indirectX b)
  | .oraIndirectY b => .memory (.indirectY b)
  | .eorImmediate v => .immediate v
  | .eorZeroPage b => .memory (.zeroPage b)
  | .eorZeroPageX b => .memory (.zeroPageX b)
  | .eorAbsolute w => .memory (.absolute w)
  | .eorAbsoluteX w => .memory (.absoluteX w)
  | .eorAbsoluteY w => .memory (.absoluteY w)
  | .eorIndirectX b => .memory (.indirectX b)
  | .eorIndirectY b => .memory (.indirectY b)
  | .cmpImmediate v => .immediate v
  | .cmpZeroPage b => .memory (.zeroPage b)
  | .cmpZeroPageX b => .memory (.zeroPageX b)
  | .cmpAbsolute w => .memory (.absolute w)
  | .cmpAbsoluteX w => .memory (.absoluteX w)
  | .cmpAbsoluteY w => .memory (.absoluteY w)
  | .cmpIndirectX b => .memory (.indirectX b)
  | .cmpIndirectY b => .memory (.indirectY b)
  | .cpxImmediate v => .immediate v
  | .cpxZeroPage b => .memory (.zeroPage b)
  | .cpxAbsolute w => .memory (.absolute w)
  | .cpyImmediate v => .immediate v
  | .cpyZeroPage b => .memory (.zeroPage b)
  | .cpyAbsolute w => .memory (.absolute w)
  | .bitZeroPage b => .memory (.zeroPage b)
  | .bitAbsolute w => .memory (.absolute w)
  | .incZeroPage b => .memory (.zeroPage b)
  | .incZeroPageX b => .memory (.zeroPageX b)
  | .incAbsolute w => .memory (.absolute w)
  | .incAbsoluteX w => .memory (.absoluteX w)
  | .decZeroPage b => .memory (.zeroPage b)
  | .decZeroPageX b => .memory (.zeroPageX b)
  | .decAbsolute w => .memory (.absolute w)
  | .decAbsoluteX w => .memory (.absoluteX w)
  | .inx => .implied
  | .iny => .implied
  | .dex => .implied
  | .dey => .implied
  | .aslAccumulator => .accumulator
  | .aslZeroPage b => .memory (.zeroPage b)
  | .aslZeroPageX b => .memory (.zeroPageX b)
  | .aslAbsolute w => .memory (.absolute w)
  | .aslAbsoluteX w => .memory (.absoluteX w)
  | .lsrAccumulator => .accumulator
  | .lsrZeroPage b => .memory (.zeroPage b)
  | .lsrZeroPageX b => .memory (.zeroPageX b)
  | .lsrAbsolute w => .memory (.absolute w)
  | .lsrAbsoluteX w => .memory (.absoluteX w)
  | .rolAccumulator => .accumulator
  | .rolZeroPage b => .memory (.zeroPage b)
  | .rolZeroPageX b => .memory (.zeroPageX b)
  | .rolAbsolute w => .memory (.absolute w)
  | .rolAbsoluteX w => .memory (.absoluteX w)
  | .rorAccumulator => .accumulator
  | .rorZeroPage b => .memory (.zeroPage b)
  | .rorZeroPageX b => .memory (.zeroPageX b)
  | .rorAbsolute w => .memory (.absolute w)
  | .rorAbsoluteX w => .memory (.absoluteX w)
  | .clc => .implied
  | .sec => .implied
  | .cli => .implied
  | .sei => .implied
  | .clv => .implied
  | .cld => .implied
  | .sed => .implied
  | .nop => .implied
  | .bpl d => .relative d
  | .bmi d => .relative d
  | .bvc d => .relative d
  | .bvs d => .relative d
  | .bcc d => .relative d
  | .bcs d => .relative d
  | .bne d => .relative d
  | .beq d => .relative d
  | .jmpAbsolute w => .memory (.absolute w)
  | .jmpIndirect w => .memory (.indirect w)
  | .jsr w => .memory (.absolute w)
  | .rts => .implied
  | .pha => .implied
  | .php => .implied
  | .pla => .implied
  | .plp => .implied
  | .brk => .implied
  | .rti => .implied

end Sys2Proof
end

