-- ==== Sys2Proof/WellFormed.lean ====
section
/-! DEFINITION. Which pairings of an operation with an addressing mode exist (the Encoding lines of R140-R238 and the grid of
R101). No operand value is illegal (R81, R82), so this is the one check there is: a form such as STA Immediate is refused. -/

namespace Sys2Proof

/-- The addressing modes an operation has, from the Encoding line of its rule. -/
def Mnemonic.modes : Mnemonic → List Mode
  | .LDA => [.immediate, .zeroPage, .zeroPageX, .absolute, .absoluteX, .absoluteY, .indirectX, .indirectY]
  | .LDX => [.immediate, .zeroPage, .zeroPageY, .absolute, .absoluteY]
  | .LDY => [.immediate, .zeroPage, .zeroPageX, .absolute, .absoluteX]
  | .STA => [.zeroPage, .zeroPageX, .absolute, .absoluteX, .absoluteY, .indirectX, .indirectY]
  | .STX => [.zeroPage, .zeroPageY, .absolute]
  | .STY => [.zeroPage, .zeroPageX, .absolute]
  | .TAX => [.implied]
  | .TAY => [.implied]
  | .TXA => [.implied]
  | .TYA => [.implied]
  | .TSX => [.implied]
  | .TXS => [.implied]
  | .ADC => [.immediate, .zeroPage, .zeroPageX, .absolute, .absoluteX, .absoluteY, .indirectX, .indirectY]
  | .SBC => [.immediate, .zeroPage, .zeroPageX, .absolute, .absoluteX, .absoluteY, .indirectX, .indirectY]
  | .AND => [.immediate, .zeroPage, .zeroPageX, .absolute, .absoluteX, .absoluteY, .indirectX, .indirectY]
  | .ORA => [.immediate, .zeroPage, .zeroPageX, .absolute, .absoluteX, .absoluteY, .indirectX, .indirectY]
  | .EOR => [.immediate, .zeroPage, .zeroPageX, .absolute, .absoluteX, .absoluteY, .indirectX, .indirectY]
  | .CMP => [.immediate, .zeroPage, .zeroPageX, .absolute, .absoluteX, .absoluteY, .indirectX, .indirectY]
  | .CPX => [.immediate, .zeroPage, .absolute]
  | .CPY => [.immediate, .zeroPage, .absolute]
  | .BIT => [.zeroPage, .absolute]
  | .INC => [.zeroPage, .zeroPageX, .absolute, .absoluteX]
  | .DEC => [.zeroPage, .zeroPageX, .absolute, .absoluteX]
  | .INX => [.implied]
  | .INY => [.implied]
  | .DEX => [.implied]
  | .DEY => [.implied]
  | .ASL => [.accumulator, .zeroPage, .zeroPageX, .absolute, .absoluteX]
  | .LSR => [.accumulator, .zeroPage, .zeroPageX, .absolute, .absoluteX]
  | .ROL => [.accumulator, .zeroPage, .zeroPageX, .absolute, .absoluteX]
  | .ROR => [.accumulator, .zeroPage, .zeroPageX, .absolute, .absoluteX]
  | .CLC => [.implied]
  | .SEC => [.implied]
  | .CLI => [.implied]
  | .SEI => [.implied]
  | .CLV => [.implied]
  | .CLD => [.implied]
  | .SED => [.implied]
  | .NOP => [.implied]
  | .BPL => [.relative]
  | .BMI => [.relative]
  | .BVC => [.relative]
  | .BVS => [.relative]
  | .BCC => [.relative]
  | .BCS => [.relative]
  | .BNE => [.relative]
  | .BEQ => [.relative]
  | .JMP => [.absolute, .indirect]
  | .JSR => [.absolute]
  | .RTS => [.implied]
  | .PHA => [.implied]
  | .PHP => [.implied]
  | .PLA => [.implied]
  | .PLP => [.implied]
  | .BRK => [.implied]
  | .RTI => [.implied]

/-- An operation with an operand, whether or not the table pairs them. -/
structure Form where
  /-- The operation. -/
  op : Mnemonic
  /-- Its operand. -/
  operand : Operand
  deriving DecidableEq, Repr

/-- The check: the operand's mode is one the operation has. -/
def Form.wf (f : Form) : Bool := f.op.modes.contains f.operand.mode

/-- The form of an instruction. -/
def Instr.form (i : Instr) : Form := { op := i.mnemonic, operand := i.operand }

/-- A well-formed instruction is one whose form exists. -/
abbrev Instr.WellFormed (i : Instr) : Prop := i.form.wf = true

end Sys2Proof
end

