-- ==== Sys2Proof/Decode.lean ====
section
/-! DEFINITION. The opcode decode table (R101, R105, opcode_table.json), the decoder, total on any bytes and rejecting by name,
and the encoder. A byte with no row is unmapped (R104). -/

namespace Sys2Proof

open Sys2Proof.Machine

/-- The page-cross penalty class of a table entry (R105). -/
inductive Penalty where
  /-- A read that costs one more cycle when it crosses a page. -/
  | yes
  /-- A conditional branch. -/
  | branch
  /-- Fixed cost. -/
  | no
  deriving DecidableEq, Repr

/-- An entry of the opcode table: operation kind, addressing mode, base cycle count, penalty class (R101). -/
structure Entry where
  /-- The operation kind. -/
  op : Mnemonic
  /-- The addressing mode. -/
  mode : Mode
  /-- The base cycle count. -/
  baseCycles : Nat
  /-- The penalty class. -/
  penalty : Penalty
  deriving DecidableEq, Repr

/-- The mapped opcodes 0x00 to 0x0F (R101, row 0x of the grid). -/
def opcodeRows0 : List (Byte × Entry) :=
  [(0x00, ⟨.BRK, .implied, 7, .no⟩),
   (0x01, ⟨.ORA, .indirectX, 6, .no⟩),
   (0x05, ⟨.ORA, .zeroPage, 3, .no⟩),
   (0x06, ⟨.ASL, .zeroPage, 5, .no⟩),
   (0x08, ⟨.PHP, .implied, 3, .no⟩),
   (0x09, ⟨.ORA, .immediate, 2, .no⟩),
   (0x0A, ⟨.ASL, .accumulator, 2, .no⟩),
   (0x0D, ⟨.ORA, .absolute, 4, .no⟩),
   (0x0E, ⟨.ASL, .absolute, 6, .no⟩)]

/-- The mapped opcodes 0x10 to 0x1F (R101, row 1x of the grid). -/
def opcodeRows1 : List (Byte × Entry) :=
  [(0x10, ⟨.BPL, .relative, 2, .branch⟩),
   (0x11, ⟨.ORA, .indirectY, 5, .yes⟩),
   (0x15, ⟨.ORA, .zeroPageX, 4, .no⟩),
   (0x16, ⟨.ASL, .zeroPageX, 6, .no⟩),
   (0x18, ⟨.CLC, .implied, 2, .no⟩),
   (0x19, ⟨.ORA, .absoluteY, 4, .yes⟩),
   (0x1D, ⟨.ORA, .absoluteX, 4, .yes⟩),
   (0x1E, ⟨.ASL, .absoluteX, 7, .no⟩)]

/-- The mapped opcodes 0x20 to 0x2F (R101, row 2x of the grid). -/
def opcodeRows2 : List (Byte × Entry) :=
  [(0x20, ⟨.JSR, .absolute, 6, .no⟩),
   (0x21, ⟨.AND, .indirectX, 6, .no⟩),
   (0x24, ⟨.BIT, .zeroPage, 3, .no⟩),
   (0x25, ⟨.AND, .zeroPage, 3, .no⟩),
   (0x26, ⟨.ROL, .zeroPage, 5, .no⟩),
   (0x28, ⟨.PLP, .implied, 4, .no⟩),
   (0x29, ⟨.AND, .immediate, 2, .no⟩),
   (0x2A, ⟨.ROL, .accumulator, 2, .no⟩),
   (0x2C, ⟨.BIT, .absolute, 4, .no⟩),
   (0x2D, ⟨.AND, .absolute, 4, .no⟩),
   (0x2E, ⟨.ROL, .absolute, 6, .no⟩)]

/-- The mapped opcodes 0x30 to 0x3F (R101, row 3x of the grid). -/
def opcodeRows3 : List (Byte × Entry) :=
  [(0x30, ⟨.BMI, .relative, 2, .branch⟩),
   (0x31, ⟨.AND, .indirectY, 5, .yes⟩),
   (0x35, ⟨.AND, .zeroPageX, 4, .no⟩),
   (0x36, ⟨.ROL, .zeroPageX, 6, .no⟩),
   (0x38, ⟨.SEC, .implied, 2, .no⟩),
   (0x39, ⟨.AND, .absoluteY, 4, .yes⟩),
   (0x3D, ⟨.AND, .absoluteX, 4, .yes⟩),
   (0x3E, ⟨.ROL, .absoluteX, 7, .no⟩)]

/-- The mapped opcodes 0x40 to 0x4F (R101, row 4x of the grid). -/
def opcodeRows4 : List (Byte × Entry) :=
  [(0x40, ⟨.RTI, .implied, 6, .no⟩),
   (0x41, ⟨.EOR, .indirectX, 6, .no⟩),
   (0x45, ⟨.EOR, .zeroPage, 3, .no⟩),
   (0x46, ⟨.LSR, .zeroPage, 5, .no⟩),
   (0x48, ⟨.PHA, .implied, 3, .no⟩),
   (0x49, ⟨.EOR, .immediate, 2, .no⟩),
   (0x4A, ⟨.LSR, .accumulator, 2, .no⟩),
   (0x4C, ⟨.JMP, .absolute, 3, .no⟩),
   (0x4D, ⟨.EOR, .absolute, 4, .no⟩),
   (0x4E, ⟨.LSR, .absolute, 6, .no⟩)]

/-- The mapped opcodes 0x50 to 0x5F (R101, row 5x of the grid). -/
def opcodeRows5 : List (Byte × Entry) :=
  [(0x50, ⟨.BVC, .relative, 2, .branch⟩),
   (0x51, ⟨.EOR, .indirectY, 5, .yes⟩),
   (0x55, ⟨.EOR, .zeroPageX, 4, .no⟩),
   (0x56, ⟨.LSR, .zeroPageX, 6, .no⟩),
   (0x58, ⟨.CLI, .implied, 2, .no⟩),
   (0x59, ⟨.EOR, .absoluteY, 4, .yes⟩),
   (0x5D, ⟨.EOR, .absoluteX, 4, .yes⟩),
   (0x5E, ⟨.LSR, .absoluteX, 7, .no⟩)]

/-- The mapped opcodes 0x60 to 0x6F (R101, row 6x of the grid). -/
def opcodeRows6 : List (Byte × Entry) :=
  [(0x60, ⟨.RTS, .implied, 6, .no⟩),
   (0x61, ⟨.ADC, .indirectX, 6, .no⟩),
   (0x65, ⟨.ADC, .zeroPage, 3, .no⟩),
   (0x66, ⟨.ROR, .zeroPage, 5, .no⟩),
   (0x68, ⟨.PLA, .implied, 4, .no⟩),
   (0x69, ⟨.ADC, .immediate, 2, .no⟩),
   (0x6A, ⟨.ROR, .accumulator, 2, .no⟩),
   (0x6C, ⟨.JMP, .indirect, 5, .no⟩),
   (0x6D, ⟨.ADC, .absolute, 4, .no⟩),
   (0x6E, ⟨.ROR, .absolute, 6, .no⟩)]

/-- The mapped opcodes 0x70 to 0x7F (R101, row 7x of the grid). -/
def opcodeRows7 : List (Byte × Entry) :=
  [(0x70, ⟨.BVS, .relative, 2, .branch⟩),
   (0x71, ⟨.ADC, .indirectY, 5, .yes⟩),
   (0x75, ⟨.ADC, .zeroPageX, 4, .no⟩),
   (0x76, ⟨.ROR, .zeroPageX, 6, .no⟩),
   (0x78, ⟨.SEI, .implied, 2, .no⟩),
   (0x79, ⟨.ADC, .absoluteY, 4, .yes⟩),
   (0x7D, ⟨.ADC, .absoluteX, 4, .yes⟩),
   (0x7E, ⟨.ROR, .absoluteX, 7, .no⟩)]

/-- The mapped opcodes 0x80 to 0x8F (R101, row 8x of the grid). -/
def opcodeRows8 : List (Byte × Entry) :=
  [(0x81, ⟨.STA, .indirectX, 6, .no⟩),
   (0x84, ⟨.STY, .zeroPage, 3, .no⟩),
   (0x85, ⟨.STA, .zeroPage, 3, .no⟩),
   (0x86, ⟨.STX, .zeroPage, 3, .no⟩),
   (0x88, ⟨.DEY, .implied, 2, .no⟩),
   (0x8A, ⟨.TXA, .implied, 2, .no⟩),
   (0x8C, ⟨.STY, .absolute, 4, .no⟩),
   (0x8D, ⟨.STA, .absolute, 4, .no⟩),
   (0x8E, ⟨.STX, .absolute, 4, .no⟩)]

/-- The mapped opcodes 0x90 to 0x9F (R101, row 9x of the grid). -/
def opcodeRows9 : List (Byte × Entry) :=
  [(0x90, ⟨.BCC, .relative, 2, .branch⟩),
   (0x91, ⟨.STA, .indirectY, 6, .no⟩),
   (0x94, ⟨.STY, .zeroPageX, 4, .no⟩),
   (0x95, ⟨.STA, .zeroPageX, 4, .no⟩),
   (0x96, ⟨.STX, .zeroPageY, 4, .no⟩),
   (0x98, ⟨.TYA, .implied, 2, .no⟩),
   (0x99, ⟨.STA, .absoluteY, 5, .no⟩),
   (0x9A, ⟨.TXS, .implied, 2, .no⟩),
   (0x9D, ⟨.STA, .absoluteX, 5, .no⟩)]

/-- The mapped opcodes 0xA0 to 0xAF (R101, row Ax of the grid). -/
def opcodeRowsA : List (Byte × Entry) :=
  [(0xA0, ⟨.LDY, .immediate, 2, .no⟩),
   (0xA1, ⟨.LDA, .indirectX, 6, .no⟩),
   (0xA2, ⟨.LDX, .immediate, 2, .no⟩),
   (0xA4, ⟨.LDY, .zeroPage, 3, .no⟩),
   (0xA5, ⟨.LDA, .zeroPage, 3, .no⟩),
   (0xA6, ⟨.LDX, .zeroPage, 3, .no⟩),
   (0xA8, ⟨.TAY, .implied, 2, .no⟩),
   (0xA9, ⟨.LDA, .immediate, 2, .no⟩),
   (0xAA, ⟨.TAX, .implied, 2, .no⟩),
   (0xAC, ⟨.LDY, .absolute, 4, .no⟩),
   (0xAD, ⟨.LDA, .absolute, 4, .no⟩),
   (0xAE, ⟨.LDX, .absolute, 4, .no⟩)]

/-- The mapped opcodes 0xB0 to 0xBF (R101, row Bx of the grid). -/
def opcodeRowsB : List (Byte × Entry) :=
  [(0xB0, ⟨.BCS, .relative, 2, .branch⟩),
   (0xB1, ⟨.LDA, .indirectY, 5, .yes⟩),
   (0xB4, ⟨.LDY, .zeroPageX, 4, .no⟩),
   (0xB5, ⟨.LDA, .zeroPageX, 4, .no⟩),
   (0xB6, ⟨.LDX, .zeroPageY, 4, .no⟩),
   (0xB8, ⟨.CLV, .implied, 2, .no⟩),
   (0xB9, ⟨.LDA, .absoluteY, 4, .yes⟩),
   (0xBA, ⟨.TSX, .implied, 2, .no⟩),
   (0xBC, ⟨.LDY, .absoluteX, 4, .yes⟩),
   (0xBD, ⟨.LDA, .absoluteX, 4, .yes⟩),
   (0xBE, ⟨.LDX, .absoluteY, 4, .yes⟩)]

/-- The mapped opcodes 0xC0 to 0xCF (R101, row Cx of the grid). -/
def opcodeRowsC : List (Byte × Entry) :=
  [(0xC0, ⟨.CPY, .immediate, 2, .no⟩),
   (0xC1, ⟨.CMP, .indirectX, 6, .no⟩),
   (0xC4, ⟨.CPY, .zeroPage, 3, .no⟩),
   (0xC5, ⟨.CMP, .zeroPage, 3, .no⟩),
   (0xC6, ⟨.DEC, .zeroPage, 5, .no⟩),
   (0xC8, ⟨.INY, .implied, 2, .no⟩),
   (0xC9, ⟨.CMP, .immediate, 2, .no⟩),
   (0xCA, ⟨.DEX, .implied, 2, .no⟩),
   (0xCC, ⟨.CPY, .absolute, 4, .no⟩),
   (0xCD, ⟨.CMP, .absolute, 4, .no⟩),
   (0xCE, ⟨.DEC, .absolute, 6, .no⟩)]

/-- The mapped opcodes 0xD0 to 0xDF (R101, row Dx of the grid). -/
def opcodeRowsD : List (Byte × Entry) :=
  [(0xD0, ⟨.BNE, .relative, 2, .branch⟩),
   (0xD1, ⟨.CMP, .indirectY, 5, .yes⟩),
   (0xD5, ⟨.CMP, .zeroPageX, 4, .no⟩),
   (0xD6, ⟨.DEC, .zeroPageX, 6, .no⟩),
   (0xD8, ⟨.CLD, .implied, 2, .no⟩),
   (0xD9, ⟨.CMP, .absoluteY, 4, .yes⟩),
   (0xDD, ⟨.CMP, .absoluteX, 4, .yes⟩),
   (0xDE, ⟨.DEC, .absoluteX, 7, .no⟩)]

/-- The mapped opcodes 0xE0 to 0xEF (R101, row Ex of the grid). -/
def opcodeRowsE : List (Byte × Entry) :=
  [(0xE0, ⟨.CPX, .immediate, 2, .no⟩),
   (0xE1, ⟨.SBC, .indirectX, 6, .no⟩),
   (0xE4, ⟨.CPX, .zeroPage, 3, .no⟩),
   (0xE5, ⟨.SBC, .zeroPage, 3, .no⟩),
   (0xE6, ⟨.INC, .zeroPage, 5, .no⟩),
   (0xE8, ⟨.INX, .implied, 2, .no⟩),
   (0xE9, ⟨.SBC, .immediate, 2, .no⟩),
   (0xEA, ⟨.NOP, .implied, 2, .no⟩),
   (0xEC, ⟨.CPX, .absolute, 4, .no⟩),
   (0xED, ⟨.SBC, .absolute, 4, .no⟩),
   (0xEE, ⟨.INC, .absolute, 6, .no⟩)]

/-- The mapped opcodes 0xF0 to 0xFF (R101, row Fx of the grid). -/
def opcodeRowsF : List (Byte × Entry) :=
  [(0xF0, ⟨.BEQ, .relative, 2, .branch⟩),
   (0xF1, ⟨.SBC, .indirectY, 5, .yes⟩),
   (0xF5, ⟨.SBC, .zeroPageX, 4, .no⟩),
   (0xF6, ⟨.INC, .zeroPageX, 6, .no⟩),
   (0xF8, ⟨.SED, .implied, 2, .no⟩),
   (0xF9, ⟨.SBC, .absoluteY, 4, .yes⟩),
   (0xFD, ⟨.SBC, .absoluteX, 4, .yes⟩),
   (0xFE, ⟨.INC, .absoluteX, 7, .no⟩)]

/-- All 151 rows of the table (R101). -/
def opcodeRows : List (Byte × Entry) :=
  opcodeRows0 ++ opcodeRows1 ++ opcodeRows2 ++ opcodeRows3 ++ opcodeRows4 ++ opcodeRows5 ++ opcodeRows6 ++ opcodeRows7 ++
    opcodeRows8 ++ opcodeRows9 ++ opcodeRowsA ++ opcodeRowsB ++ opcodeRowsC ++ opcodeRowsD ++ opcodeRowsE ++ opcodeRowsF

/-- Table[opcode]: the entry of a byte, or none where it is unmapped. A pure function of the byte (R33, R123). -/
def opcodeEntry (b : Byte) : Option Entry := (opcodeRows.find? (fun r => r.1 == b)).map (·.2)

/-- The length in bytes of an instruction of a mode, opcode included (R83). -/
def Mode.length : Mode → Nat
  | .implied => 1
  | .accumulator => 1
  | .immediate => 2
  | .zeroPage => 2
  | .zeroPageX => 2
  | .zeroPageY => 2
  | .absolute => 3
  | .absoluteX => 3
  | .absoluteY => 3
  | .indirect => 3
  | .indirectX => 2
  | .indirectY => 2
  | .relative => 2

/-- The length in bytes of an instruction (R83). -/
def Instr.length (i : Instr) : Nat := i.operand.mode.length

/-- The operand of a mode, from the two bytes after the opcode; a mode uses as many of them as its length says (R81, R82). -/
def operandOf (m : Mode) (b1 b2 : Byte) : Operand :=
  match m with
  | .implied => .implied
  | .accumulator => .accumulator
  | .immediate => .immediate b1
  | .zeroPage => .memory (.zeroPage b1)
  | .zeroPageX => .memory (.zeroPageX b1)
  | .zeroPageY => .memory (.zeroPageY b1)
  | .absolute => .memory (.absolute (w16 b2 b1))
  | .absoluteX => .memory (.absoluteX (w16 b2 b1))
  | .absoluteY => .memory (.absoluteY (w16 b2 b1))
  | .indirect => .memory (.indirect (w16 b2 b1))
  | .indirectX => .memory (.indirectX b1)
  | .indirectY => .memory (.indirectY b1)
  | .relative => .relative b1

/-- The instruction of an operation and an operand; none where the table has no such form. -/
def assemble (op : Mnemonic) (o : Operand) : Option Instr :=
  match op with
  | .LDA => match o with
    | .immediate v => some (.ldaImmediate v)
    | .memory (.zeroPage b) => some (.ldaZeroPage b)
    | .memory (.zeroPageX b) => some (.ldaZeroPageX b)
    | .memory (.absolute w) => some (.ldaAbsolute w)
    | .memory (.absoluteX w) => some (.ldaAbsoluteX w)
    | .memory (.absoluteY w) => some (.ldaAbsoluteY w)
    | .memory (.indirectX b) => some (.ldaIndirectX b)
    | .memory (.indirectY b) => some (.ldaIndirectY b)
    | _ => none
  | .LDX => match o with
    | .immediate v => some (.ldxImmediate v)
    | .memory (.zeroPage b) => some (.ldxZeroPage b)
    | .memory (.zeroPageY b) => some (.ldxZeroPageY b)
    | .memory (.absolute w) => some (.ldxAbsolute w)
    | .memory (.absoluteY w) => some (.ldxAbsoluteY w)
    | _ => none
  | .LDY => match o with
    | .immediate v => some (.ldyImmediate v)
    | .memory (.zeroPage b) => some (.ldyZeroPage b)
    | .memory (.zeroPageX b) => some (.ldyZeroPageX b)
    | .memory (.absolute w) => some (.ldyAbsolute w)
    | .memory (.absoluteX w) => some (.ldyAbsoluteX w)
    | _ => none
  | .STA => match o with
    | .memory (.zeroPage b) => some (.staZeroPage b)
    | .memory (.zeroPageX b) => some (.staZeroPageX b)
    | .memory (.absolute w) => some (.staAbsolute w)
    | .memory (.absoluteX w) => some (.staAbsoluteX w)
    | .memory (.absoluteY w) => some (.staAbsoluteY w)
    | .memory (.indirectX b) => some (.staIndirectX b)
    | .memory (.indirectY b) => some (.staIndirectY b)
    | _ => none
  | .STX => match o with
    | .memory (.zeroPage b) => some (.stxZeroPage b)
    | .memory (.zeroPageY b) => some (.stxZeroPageY b)
    | .memory (.absolute w) => some (.stxAbsolute w)
    | _ => none
  | .STY => match o with
    | .memory (.zeroPage b) => some (.styZeroPage b)
    | .memory (.zeroPageX b) => some (.styZeroPageX b)
    | .memory (.absolute w) => some (.styAbsolute w)
    | _ => none
  | .TAX => match o with
    | .implied => some .tax
    | _ => none
  | .TAY => match o with
    | .implied => some .tay
    | _ => none
  | .TXA => match o with
    | .implied => some .txa
    | _ => none
  | .TYA => match o with
    | .implied => some .tya
    | _ => none
  | .TSX => match o with
    | .implied => some .tsx
    | _ => none
  | .TXS => match o with
    | .implied => some .txs
    | _ => none
  | .ADC => match o with
    | .immediate v => some (.adcImmediate v)
    | .memory (.zeroPage b) => some (.adcZeroPage b)
    | .memory (.zeroPageX b) => some (.adcZeroPageX b)
    | .memory (.absolute w) => some (.adcAbsolute w)
    | .memory (.absoluteX w) => some (.adcAbsoluteX w)
    | .memory (.absoluteY w) => some (.adcAbsoluteY w)
    | .memory (.indirectX b) => some (.adcIndirectX b)
    | .memory (.indirectY b) => some (.adcIndirectY b)
    | _ => none
  | .SBC => match o with
    | .immediate v => some (.sbcImmediate v)
    | .memory (.zeroPage b) => some (.sbcZeroPage b)
    | .memory (.zeroPageX b) => some (.sbcZeroPageX b)
    | .memory (.absolute w) => some (.sbcAbsolute w)
    | .memory (.absoluteX w) => some (.sbcAbsoluteX w)
    | .memory (.absoluteY w) => some (.sbcAbsoluteY w)
    | .memory (.indirectX b) => some (.sbcIndirectX b)
    | .memory (.indirectY b) => some (.sbcIndirectY b)
    | _ => none
  | .AND => match o with
    | .immediate v => some (.andImmediate v)
    | .memory (.zeroPage b) => some (.andZeroPage b)
    | .memory (.zeroPageX b) => some (.andZeroPageX b)
    | .memory (.absolute w) => some (.andAbsolute w)
    | .memory (.absoluteX w) => some (.andAbsoluteX w)
    | .memory (.absoluteY w) => some (.andAbsoluteY w)
    | .memory (.indirectX b) => some (.andIndirectX b)
    | .memory (.indirectY b) => some (.andIndirectY b)
    | _ => none
  | .ORA => match o with
    | .immediate v => some (.oraImmediate v)
    | .memory (.zeroPage b) => some (.oraZeroPage b)
    | .memory (.zeroPageX b) => some (.oraZeroPageX b)
    | .memory (.absolute w) => some (.oraAbsolute w)
    | .memory (.absoluteX w) => some (.oraAbsoluteX w)
    | .memory (.absoluteY w) => some (.oraAbsoluteY w)
    | .memory (.indirectX b) => some (.oraIndirectX b)
    | .memory (.indirectY b) => some (.oraIndirectY b)
    | _ => none
  | .EOR => match o with
    | .immediate v => some (.eorImmediate v)
    | .memory (.zeroPage b) => some (.eorZeroPage b)
    | .memory (.zeroPageX b) => some (.eorZeroPageX b)
    | .memory (.absolute w) => some (.eorAbsolute w)
    | .memory (.absoluteX w) => some (.eorAbsoluteX w)
    | .memory (.absoluteY w) => some (.eorAbsoluteY w)
    | .memory (.indirectX b) => some (.eorIndirectX b)
    | .memory (.indirectY b) => some (.eorIndirectY b)
    | _ => none
  | .CMP => match o with
    | .immediate v => some (.cmpImmediate v)
    | .memory (.zeroPage b) => some (.cmpZeroPage b)
    | .memory (.zeroPageX b) => some (.cmpZeroPageX b)
    | .memory (.absolute w) => some (.cmpAbsolute w)
    | .memory (.absoluteX w) => some (.cmpAbsoluteX w)
    | .memory (.absoluteY w) => some (.cmpAbsoluteY w)
    | .memory (.indirectX b) => some (.cmpIndirectX b)
    | .memory (.indirectY b) => some (.cmpIndirectY b)
    | _ => none
  | .CPX => match o with
    | .immediate v => some (.cpxImmediate v)
    | .memory (.zeroPage b) => some (.cpxZeroPage b)
    | .memory (.absolute w) => some (.cpxAbsolute w)
    | _ => none
  | .CPY => match o with
    | .immediate v => some (.cpyImmediate v)
    | .memory (.zeroPage b) => some (.cpyZeroPage b)
    | .memory (.absolute w) => some (.cpyAbsolute w)
    | _ => none
  | .BIT => match o with
    | .memory (.zeroPage b) => some (.bitZeroPage b)
    | .memory (.absolute w) => some (.bitAbsolute w)
    | _ => none
  | .INC => match o with
    | .memory (.zeroPage b) => some (.incZeroPage b)
    | .memory (.zeroPageX b) => some (.incZeroPageX b)
    | .memory (.absolute w) => some (.incAbsolute w)
    | .memory (.absoluteX w) => some (.incAbsoluteX w)
    | _ => none
  | .DEC => match o with
    | .memory (.zeroPage b) => some (.decZeroPage b)
    | .memory (.zeroPageX b) => some (.decZeroPageX b)
    | .memory (.absolute w) => some (.decAbsolute w)
    | .memory (.absoluteX w) => some (.decAbsoluteX w)
    | _ => none
  | .INX => match o with
    | .implied => some .inx
    | _ => none
  | .INY => match o with
    | .implied => some .iny
    | _ => none
  | .DEX => match o with
    | .implied => some .dex
    | _ => none
  | .DEY => match o with
    | .implied => some .dey
    | _ => none
  | .ASL => match o with
    | .accumulator => some .aslAccumulator
    | .memory (.zeroPage b) => some (.aslZeroPage b)
    | .memory (.zeroPageX b) => some (.aslZeroPageX b)
    | .memory (.absolute w) => some (.aslAbsolute w)
    | .memory (.absoluteX w) => some (.aslAbsoluteX w)
    | _ => none
  | .LSR => match o with
    | .accumulator => some .lsrAccumulator
    | .memory (.zeroPage b) => some (.lsrZeroPage b)
    | .memory (.zeroPageX b) => some (.lsrZeroPageX b)
    | .memory (.absolute w) => some (.lsrAbsolute w)
    | .memory (.absoluteX w) => some (.lsrAbsoluteX w)
    | _ => none
  | .ROL => match o with
    | .accumulator => some .rolAccumulator
    | .memory (.zeroPage b) => some (.rolZeroPage b)
    | .memory (.zeroPageX b) => some (.rolZeroPageX b)
    | .memory (.absolute w) => some (.rolAbsolute w)
    | .memory (.absoluteX w) => some (.rolAbsoluteX w)
    | _ => none
  | .ROR => match o with
    | .accumulator => some .rorAccumulator
    | .memory (.zeroPage b) => some (.rorZeroPage b)
    | .memory (.zeroPageX b) => some (.rorZeroPageX b)
    | .memory (.absolute w) => some (.rorAbsolute w)
    | .memory (.absoluteX w) => some (.rorAbsoluteX w)
    | _ => none
  | .CLC => match o with
    | .implied => some .clc
    | _ => none
  | .SEC => match o with
    | .implied => some .sec
    | _ => none
  | .CLI => match o with
    | .implied => some .cli
    | _ => none
  | .SEI => match o with
    | .implied => some .sei
    | _ => none
  | .CLV => match o with
    | .implied => some .clv
    | _ => none
  | .CLD => match o with
    | .implied => some .cld
    | _ => none
  | .SED => match o with
    | .implied => some .sed
    | _ => none
  | .NOP => match o with
    | .implied => some .nop
    | _ => none
  | .BPL => match o with
    | .relative d => some (.bpl d)
    | _ => none
  | .BMI => match o with
    | .relative d => some (.bmi d)
    | _ => none
  | .BVC => match o with
    | .relative d => some (.bvc d)
    | _ => none
  | .BVS => match o with
    | .relative d => some (.bvs d)
    | _ => none
  | .BCC => match o with
    | .relative d => some (.bcc d)
    | _ => none
  | .BCS => match o with
    | .relative d => some (.bcs d)
    | _ => none
  | .BNE => match o with
    | .relative d => some (.bne d)
    | _ => none
  | .BEQ => match o with
    | .relative d => some (.beq d)
    | _ => none
  | .JMP => match o with
    | .memory (.absolute w) => some (.jmpAbsolute w)
    | .memory (.indirect w) => some (.jmpIndirect w)
    | _ => none
  | .JSR => match o with
    | .memory (.absolute w) => some (.jsr w)
    | _ => none
  | .RTS => match o with
    | .implied => some .rts
    | _ => none
  | .PHA => match o with
    | .implied => some .pha
    | _ => none
  | .PHP => match o with
    | .implied => some .php
    | _ => none
  | .PLA => match o with
    | .implied => some .pla
    | _ => none
  | .PLP => match o with
    | .implied => some .plp
    | _ => none
  | .BRK => match o with
    | .implied => some .brk
    | _ => none
  | .RTI => match o with
    | .implied => some .rti
    | _ => none

/-- The instruction that an opcode byte and the two bytes after it give; none where the opcode is unmapped (R101, R104). -/
def decodeOpcode (b0 b1 b2 : Byte) : Option Instr :=
  match opcodeEntry b0 with
  | none => none
  | some e => assemble e.op (operandOf e.mode b1 b2)

/-- What decoding a list of bytes answers. -/
inductive Decoded where
  /-- An instruction, and the bytes after it. -/
  | instr (i : Instr) (rest : List Byte)
  /-- The first byte has no entry (R104). -/
  | unmapped (opcode : Byte)
  /-- The list ends before the instruction does (log entry 11). -/
  | truncated
  deriving DecidableEq, Repr

/-- An instruction found, or the rejection of its opcode by name. -/
def Decoded.ofOption (b0 : Byte) (i : Option Instr) (rest : List Byte) : Decoded :=
  match i with
  | some i => .instr i rest
  | none => .unmapped b0

/-- The decoder: total on any bytes, rejecting by name (R101, R104). It tells the length from the opcode alone (R83). -/
def decode : List Byte → Decoded
  | [] => .truncated
  | b0 :: bs =>
    match opcodeEntry b0 with
    | none => .unmapped b0
    | some e =>
      match e.mode.length, bs with
      | 1, rest => .ofOption b0 (decodeOpcode b0 0 0) rest
      | 2, b1 :: rest => .ofOption b0 (decodeOpcode b0 b1 0) rest
      | 3, b1 :: b2 :: rest => .ofOption b0 (decodeOpcode b0 b1 b2) rest
      | _, _ => .truncated

/-- The opcode byte of an instruction (R101). -/
def Instr.opcode : Instr → Byte
  | .ldaImmediate _ => 0xA9
  | .ldaZeroPage _ => 0xA5
  | .ldaZeroPageX _ => 0xB5
  | .ldaAbsolute _ => 0xAD
  | .ldaAbsoluteX _ => 0xBD
  | .ldaAbsoluteY _ => 0xB9
  | .ldaIndirectX _ => 0xA1
  | .ldaIndirectY _ => 0xB1
  | .ldxImmediate _ => 0xA2
  | .ldxZeroPage _ => 0xA6
  | .ldxZeroPageY _ => 0xB6
  | .ldxAbsolute _ => 0xAE
  | .ldxAbsoluteY _ => 0xBE
  | .ldyImmediate _ => 0xA0
  | .ldyZeroPage _ => 0xA4
  | .ldyZeroPageX _ => 0xB4
  | .ldyAbsolute _ => 0xAC
  | .ldyAbsoluteX _ => 0xBC
  | .staZeroPage _ => 0x85
  | .staZeroPageX _ => 0x95
  | .staAbsolute _ => 0x8D
  | .staAbsoluteX _ => 0x9D
  | .staAbsoluteY _ => 0x99
  | .staIndirectX _ => 0x81
  | .staIndirectY _ => 0x91
  | .stxZeroPage _ => 0x86
  | .stxZeroPageY _ => 0x96
  | .stxAbsolute _ => 0x8E
  | .styZeroPage _ => 0x84
  | .styZeroPageX _ => 0x94
  | .styAbsolute _ => 0x8C
  | .tax => 0xAA
  | .tay => 0xA8
  | .txa => 0x8A
  | .tya => 0x98
  | .tsx => 0xBA
  | .txs => 0x9A
  | .adcImmediate _ => 0x69
  | .adcZeroPage _ => 0x65
  | .adcZeroPageX _ => 0x75
  | .adcAbsolute _ => 0x6D
  | .adcAbsoluteX _ => 0x7D
  | .adcAbsoluteY _ => 0x79
  | .adcIndirectX _ => 0x61
  | .adcIndirectY _ => 0x71
  | .sbcImmediate _ => 0xE9
  | .sbcZeroPage _ => 0xE5
  | .sbcZeroPageX _ => 0xF5
  | .sbcAbsolute _ => 0xED
  | .sbcAbsoluteX _ => 0xFD
  | .sbcAbsoluteY _ => 0xF9
  | .sbcIndirectX _ => 0xE1
  | .sbcIndirectY _ => 0xF1
  | .andImmediate _ => 0x29
  | .andZeroPage _ => 0x25
  | .andZeroPageX _ => 0x35
  | .andAbsolute _ => 0x2D
  | .andAbsoluteX _ => 0x3D
  | .andAbsoluteY _ => 0x39
  | .andIndirectX _ => 0x21
  | .andIndirectY _ => 0x31
  | .oraImmediate _ => 0x09
  | .oraZeroPage _ => 0x05
  | .oraZeroPageX _ => 0x15
  | .oraAbsolute _ => 0x0D
  | .oraAbsoluteX _ => 0x1D
  | .oraAbsoluteY _ => 0x19
  | .oraIndirectX _ => 0x01
  | .oraIndirectY _ => 0x11
  | .eorImmediate _ => 0x49
  | .eorZeroPage _ => 0x45
  | .eorZeroPageX _ => 0x55
  | .eorAbsolute _ => 0x4D
  | .eorAbsoluteX _ => 0x5D
  | .eorAbsoluteY _ => 0x59
  | .eorIndirectX _ => 0x41
  | .eorIndirectY _ => 0x51
  | .cmpImmediate _ => 0xC9
  | .cmpZeroPage _ => 0xC5
  | .cmpZeroPageX _ => 0xD5
  | .cmpAbsolute _ => 0xCD
  | .cmpAbsoluteX _ => 0xDD
  | .cmpAbsoluteY _ => 0xD9
  | .cmpIndirectX _ => 0xC1
  | .cmpIndirectY _ => 0xD1
  | .cpxImmediate _ => 0xE0
  | .cpxZeroPage _ => 0xE4
  | .cpxAbsolute _ => 0xEC
  | .cpyImmediate _ => 0xC0
  | .cpyZeroPage _ => 0xC4
  | .cpyAbsolute _ => 0xCC
  | .bitZeroPage _ => 0x24
  | .bitAbsolute _ => 0x2C
  | .incZeroPage _ => 0xE6
  | .incZeroPageX _ => 0xF6
  | .incAbsolute _ => 0xEE
  | .incAbsoluteX _ => 0xFE
  | .decZeroPage _ => 0xC6
  | .decZeroPageX _ => 0xD6
  | .decAbsolute _ => 0xCE
  | .decAbsoluteX _ => 0xDE
  | .inx => 0xE8
  | .iny => 0xC8
  | .dex => 0xCA
  | .dey => 0x88
  | .aslAccumulator => 0x0A
  | .aslZeroPage _ => 0x06
  | .aslZeroPageX _ => 0x16
  | .aslAbsolute _ => 0x0E
  | .aslAbsoluteX _ => 0x1E
  | .lsrAccumulator => 0x4A
  | .lsrZeroPage _ => 0x46
  | .lsrZeroPageX _ => 0x56
  | .lsrAbsolute _ => 0x4E
  | .lsrAbsoluteX _ => 0x5E
  | .rolAccumulator => 0x2A
  | .rolZeroPage _ => 0x26
  | .rolZeroPageX _ => 0x36
  | .rolAbsolute _ => 0x2E
  | .rolAbsoluteX _ => 0x3E
  | .rorAccumulator => 0x6A
  | .rorZeroPage _ => 0x66
  | .rorZeroPageX _ => 0x76
  | .rorAbsolute _ => 0x6E
  | .rorAbsoluteX _ => 0x7E
  | .clc => 0x18
  | .sec => 0x38
  | .cli => 0x58
  | .sei => 0x78
  | .clv => 0xB8
  | .cld => 0xD8
  | .sed => 0xF8
  | .nop => 0xEA
  | .bpl _ => 0x10
  | .bmi _ => 0x30
  | .bvc _ => 0x50
  | .bvs _ => 0x70
  | .bcc _ => 0x90
  | .bcs _ => 0xB0
  | .bne _ => 0xD0
  | .beq _ => 0xF0
  | .jmpAbsolute _ => 0x4C
  | .jmpIndirect _ => 0x6C
  | .jsr _ => 0x20
  | .rts => 0x60
  | .pha => 0x48
  | .php => 0x08
  | .pla => 0x68
  | .plp => 0x28
  | .brk => 0x00
  | .rti => 0x40

/-- The operand bytes of a memory operand, low byte first (R81, R82). -/
def MemRef.bytes : MemRef → List Byte
  | .zeroPage b => [b]
  | .zeroPageX b => [b]
  | .zeroPageY b => [b]
  | .absolute w => [lo w, hi w]
  | .absoluteX w => [lo w, hi w]
  | .absoluteY w => [lo w, hi w]
  | .indirect w => [lo w, hi w]
  | .indirectX b => [b]
  | .indirectY b => [b]

/-- The operand bytes after the opcode (R81). -/
def Operand.bytes : Operand → List Byte
  | .implied => []
  | .accumulator => []
  | .immediate v => [v]
  | .memory r => r.bytes
  | .relative d => [d]

/-- The encoder: opcode byte, then the operand bytes (R80, R81). -/
def encode (i : Instr) : List Byte := i.opcode :: i.operand.bytes

/-- The three bytes of a table word: the instruction's bits are `w`, the first byte in bits 7 to 0, and every bit above `nbits`
is 0. Three bytes are the longest instruction (R83). -/
def tableBytes (nbits w : Nat) : Byte × Byte × Byte :=
  let n := w % 2 ^ nbits
  (BitVec.ofNat 8 n, BitVec.ofNat 8 (n / 256), BitVec.ofNat 8 (n / 65536))

/-- The instruction the decoder reads from a word of spec/opcode_table.json, operand bytes above `nbits` zero. -/
def decodeTableWord (nbits w : Nat) : Option Instr :=
  let b := tableBytes nbits w
  match decode [b.1, b.2.1, b.2.2] with
  | .instr i _ => some i
  | .unmapped _ => none
  | .truncated => none

end Sys2Proof
end

