-- ==== Sys2Proof/Config.lean ====
section
/-! DEFINITION. The parameters of 00_scope.md R10. They are plain data: State carries one value of them, which no step
changes, so that a statement over all states holds for every value of every parameter (log entry 3). The defaults stand in
Sys2Proof/Machine/Defaults.lean. -/

namespace Sys2Proof

/-- BRK_RETURN_OFFSET, which is 1 or 2 and nothing else (R10, R237). -/
inductive BrkReturnOffset where
  | one
  | two
  deriving DecidableEq, Repr

/-- The offset as an amount added to an address (R237). -/
def BrkReturnOffset.toWord : BrkReturnOffset → Word
  | .one => 1
  | .two => 2

/-- The six parameters of R10, under the names the spec gives them. -/
structure Config where
  /-- BRK_RETURN_OFFSET: BRK pushes (address of its opcode + this) mod 65536 (R237, D4). -/
  brkReturnOffset : BrkReturnOffset
  /-- IRQ_MASKED_DISCARD: an IRQ request found while I = 1 is dropped (R254, D7). -/
  irqMaskedDiscard : Bool
  /-- JMP_IND_PAGE_WRAP: JMP (ind) wraps its pointer within the pointer's page (R94, D9). -/
  jmpIndPageWrap : Bool
  /-- RESET_S: S after Reset (R280, D17). -/
  resetS : Byte
  /-- RESET_I: I after Reset (R280, D17). -/
  resetI : Bool
  /-- STACK_PAGE: the high byte of every stack address (R61, D3). -/
  stackPage : Byte
  deriving DecidableEq, Repr

end Sys2Proof
end

