-- ==== Sys2Proof/Machine/Defaults.lean ====
section
/-! DEFINITION. The default value of every parameter, as the table of 00_scope.md R10 gives it. -/

namespace Sys2Proof

/-- The defaults of R10: offset 2, IRQ kept while masked, no pointer page wrap, S = 0xFD, I = 1, stack page 1. -/
def Config.default : Config where
  brkReturnOffset := .two
  irqMaskedDiscard := false
  jmpIndPageWrap := false
  resetS := 0xFD
  resetI := true
  stackPage := 0x01

end Sys2Proof
end

