-- ==== Sys2Proof/Machine/Memory.lean ====
section
/-! DEFINITION. The memory behind the interface of 20_memory.md R50, as a plain RAM backing (R64; log entries 1 and 2): a list of
(address, byte) cells in one canonical form. Reads and writes are total on all 65,536 addresses (R50-R53, R63). -/

namespace Sys2Proof.Machine

/-- The listed bytes of memory. -/
abbrev Memory := List Host.Cell

/-- What an address that no cell lists reads as. DESIGN CHOICE, unsafe (log entry 1): R51 leaves the byte to the backing. -/
def unlistedByte : Byte := 0

/-- The byte a list of cells gives at a key. -/
def Memory.lookup : Memory → Nat → Byte
  | [], _ => unlistedByte
  | (k, v) :: m, a => if k = a then v else Memory.lookup m a

/-- MemRead(addr): one byte, total, never failing (R51). -/
def Memory.read (m : Memory) (a : Word) : Byte := Memory.lookup m a.toNat

/-- Every cell but those at key `a`. -/
def Memory.erase (m : Memory) (a : Nat) : Memory := m.filter (fun c => c.1 != a)

/-- A cell put before the first cell of a larger address. -/
def Memory.insert : Memory → Nat → Byte → Memory
  | [], a, v => [(a, v)]
  | (k, w) :: m, a, v => if a < k then (a, v) :: (k, w) :: m else (k, w) :: Memory.insert m a v

/-- The byte `v` put at key `a`, keeping the canonical form: writing `unlistedByte` removes the cell. -/
def Memory.store (m : Memory) (a : Nat) (v : Byte) : Memory :=
  if v = unlistedByte then m.erase a else (m.erase a).insert a v

/-- MemWrite(addr, v): one byte, total, never failing (R52). -/
def Memory.write (m : Memory) (a : Word) (v : Byte) : Memory := m.store a.toNat v

/-- The canonical form: addresses strictly rising and inside the 65,536 of R50, and no cell equal to what an unlisted address
reads as. Two memories of this form that read the same are equal. -/
abbrev Memory.wf (m : Memory) : Prop :=
  List.Pairwise (fun c d => c.1 < d.1) m ∧ ∀ c ∈ m, c.1 < 65536 ∧ c.2 ≠ unlistedByte

end Sys2Proof.Machine
end

