-- ==== Sys2Proof/Machine/State.lean ====
section
/-! DEFINITION. The state of the CORE and the memory it is given (10_state.md), the reasons a step can stop, and the state right
after Reset (70_reset_and_hazards.md R280). All of it is plain data. -/

namespace Sys2Proof.Machine

/-- The six one-bit flags (R25). There is no stored Break flag and no stored bit 5. -/
structure Flags where
  /-- Carry. -/
  c : Bool
  /-- Zero. -/
  z : Bool
  /-- Interrupt-disable. -/
  i : Bool
  /-- Decimal, stored but inert (R8, R179). -/
  d : Bool
  /-- Overflow. -/
  v : Bool
  /-- Negative. -/
  n : Bool
  deriving DecidableEq, Repr

/-- DecodeError(opcode, addr): what the decode-fault latch records (R32, R250). -/
structure DecodeError where
  /-- The byte fetched as an opcode. -/
  opcode : Byte
  /-- op_addr, where it was fetched. -/
  addr : Word
  deriving DecidableEq, Repr

/-- The whole state. -/
structure State where
  /-- The accumulator A (R20). -/
  a : Byte
  /-- The index register X (R21). -/
  x : Byte
  /-- The index register Y (R21). -/
  y : Byte
  /-- The stack pointer S (R22). -/
  sp : Byte
  /-- The program counter PC (R24). -/
  pc : Word
  /-- The six flags (R25). -/
  p : Flags
  /-- irq_pending (R31). -/
  irqPending : Bool
  /-- nmi_pending (R31). -/
  nmiPending : Bool
  /-- The decode-fault latch (R32). -/
  fault : Option DecodeError
  /-- The memory backing (R50, R64; log entry 1). -/
  mem : Memory
  /-- The parameters of R10, which no step changes (log entry 3). -/
  cfg : Config
  deriving DecidableEq, Repr

/-- Why the machine stops. -/
inductive Fault where
  /-- Raised by the step that fetches an unmapped opcode byte, and by every later step until Reset (R250, R126). It is the
  spec's own fault, so stopping here is what the hardware does (safe). -/
  | decodeError (opcode : Byte) (addr : Word)
  deriving DecidableEq, Repr

/-- Why an instruction has no meaning. -/
inductive Refusal where
  /-- Raised by an arm of exec whose instruction has no meaning yet (safe: nothing can be proved of what follows). No arm of
  this model uses it. -/
  | notModelled (mnemonic : String)
  deriving DecidableEq, Repr

/-- The state right after Reset (R280, R281), with the default parameters (R10) and a memory that lists nothing (log entries 1, 3
and 4): PC is what the reset vector of that memory holds. -/
def State.reset : State where
  a := 0
  x := 0
  y := 0
  sp := Config.default.resetS
  pc := w16 (Memory.read [] 0xFFFD) (Memory.read [] 0xFFFC)
  p := { c := false, z := false, i := Config.default.resetI, d := false, v := false, n := false }
  irqPending := false
  nmiPending := false
  fault := none
  mem := []
  cfg := Config.default

end Sys2Proof.Machine
end

