-- ==== Sys2Proof/Machine/Flags.lean ====
section
/-! DEFINITION. Every flag computation: SetZN, AddWithCarry and Compare (R160-R162), BIT (R171), the shifts and rotates
(R191-R194), the status byte image and its restore (R27, R28). -/

namespace Sys2Proof.Machine

/-- SetZN(v): Z from a zero result, N from bit 7 (R160). -/
def Flags.setZN (f : Flags) (v : Byte) : Flags := { f with z := decide (v = 0), n := v.getLsbD 7 }

/-- AddWithCarry(a, b, C): the result and the flags C, V, Z, N, binary whatever D holds (R161, R179). -/
def addWithCarry (a b : Byte) (f : Flags) : Byte × Flags :=
  let sum := a.toNat + b.toNat + f.c.toNat
  let result := BitVec.ofNat 8 sum
  (result,
    Flags.setZN { f with c := decide (255 < sum), v := ((a ^^^ result) &&& (b ^^^ result)).getLsbD 7 } result)

/-- Compare(r, m): C, Z, N from the unsigned subtraction; nothing else is written (R162). -/
def compareFlags (r m : Byte) (f : Flags) : Flags := Flags.setZN { f with c := decide (m.toNat ≤ r.toNat) } (r - m)

/-- BIT's flags: Z from A AND M, N and V from bits 7 and 6 of M itself (R171). -/
def bitTest (a m : Byte) (f : Flags) : Flags :=
  { f with z := decide (a &&& m = 0), n := m.getLsbD 7, v := m.getLsbD 6 }

/-- ASL: carry out bit 7, a zero comes in (R191). -/
def shiftLeft (v : Byte) (f : Flags) : Byte × Flags :=
  let r := v <<< 1
  (r, Flags.setZN { f with c := v.getLsbD 7 } r)

/-- LSR: carry out bit 0, a zero comes in (R192). -/
def shiftRight (v : Byte) (f : Flags) : Byte × Flags :=
  let r := v >>> 1
  (r, Flags.setZN { f with c := v.getLsbD 0 } r)

/-- One flag as a byte of value 0 or 1 (R27). -/
def flagBit (b : Bool) : Byte := if b then 1 else 0

/-- ROL: carry out bit 7, the old carry comes in at bit 0 (R193). -/
def rotateLeft (v : Byte) (f : Flags) : Byte × Flags :=
  let r := (v <<< 1) ||| flagBit f.c
  (r, Flags.setZN { f with c := v.getLsbD 7 } r)

/-- ROR: carry out bit 0, the old carry comes in at bit 7 (R194). -/
def rotateRight (v : Byte) (f : Flags) : Byte × Flags :=
  let r := (v >>> 1) ||| (flagBit f.c <<< 7)
  (r, Flags.setZN { f with c := v.getLsbD 0 } r)

/-- INC: plus one, C and V untouched (R172). -/
def increment (v : Byte) (f : Flags) : Byte × Flags := (v + 1, f.setZN (v + 1))

/-- DEC: minus one, C and V untouched (R173). -/
def decrement (v : Byte) (f : Flags) : Byte × Flags := (v - 1, f.setZN (v - 1))

/-- P(b), the status byte image with break bit `b`: N V 1 b D I Z C from bit 7 down (R27). -/
def Flags.status (f : Flags) (brk : Bool) : Byte :=
  (flagBit f.n <<< 7) ||| (flagBit f.v <<< 6) ||| ((1 : Byte) <<< 5) ||| (flagBit brk <<< 4) |||
    (flagBit f.d <<< 3) ||| (flagBit f.i <<< 2) ||| (flagBit f.z <<< 1) ||| flagBit f.c

/-- RestoreFlags(p): bits 4 and 5 are discarded (R28). -/
def restoreFlags (p : Byte) : Flags where
  c := p.getLsbD 0
  z := p.getLsbD 1
  i := p.getLsbD 2
  d := p.getLsbD 3
  v := p.getLsbD 6
  n := p.getLsbD 7

end Sys2Proof.Machine
end

