-- ==== Sys2Proof/Machine/Ops.lean ====
section
/-! DEFINITION. The named operations over registers and memory: byte and 16-bit reads (R51-R55), the stack (R230-R232), entering a
handler and returning from it (R237, R238, R256), and the interrupt controller's check (R252-R254). -/

namespace Sys2Proof.Machine

/-- What one instruction answers. -/
abbrev Result := Host.Outcome State Fault Refusal

/-- MemRead(addr) (R51). -/
def State.read (s : State) (a : Word) : Byte := s.mem.read a

/-- MemWrite(addr, v) (R52). -/
def State.write (s : State) (a : Word) (v : Byte) : State := { s with mem := s.mem.write a v }

/-- PC advanced by `n`, wrapping mod 65536 (R24, R122, R84). -/
def State.advance (s : State) (n : Word) : State := { s with pc := s.pc + n }

/-- Read16(a): low byte at `a`, high byte at (a + 1) mod 65536 (R55). -/
def State.read16 (s : State) (a : Word) : Word := w16 (s.read (a + 1)) (s.read a)

/-- Read16zp(p): the high byte's address wraps within page zero (R55). -/
def State.read16zp (s : State) (p : Byte) : Word := w16 (s.read (zext16 (p + 1))) (s.read (zext16 p))

/-- The address S designates: w16(STACK_PAGE, S) (R22, R61). -/
def State.stackAddr (s : State) : Word := w16 s.cfg.stackPage s.sp

/-- S decremented, as Push(v) leaves it (R230). -/
def State.pushed (s : State) : State := { s with sp := s.sp - 1 }

/-- Push(v): write at the stack address, then decrement S (R230). -/
def State.push (s : State) (v : Byte) : State := { s with mem := s.mem.write s.stackAddr v, sp := s.sp - 1 }

/-- The state Pull() leaves: S incremented (R231). -/
def State.popped (s : State) : State := { s with sp := s.sp + 1 }

/-- The byte Pull() yields: read at the stack address after the increment (R231). -/
def State.top (s : State) : Byte := s.popped.read s.popped.stackAddr

/-- The address of the NMI vector (R62). -/
def nmiVector : Word := 0xFFFA

/-- The address of the reset vector (R62). -/
def resetVector : Word := 0xFFFC

/-- The address of the IRQ and BRK vector (R62). -/
def irqVector : Word := 0xFFFE

/-- The three pushes of an entry: the return address, high byte first, then P(brk) (R237, R256). -/
def State.pushFrame (s : State) (brk : Bool) (ret : Word) : State :=
  ((s.push (hi ret)).push (lo ret)).push (s.p.status brk)

/-- What an entry does with the two bytes of its vector: I is set and PC is the handler's address. D and the other flags stay
(R237, R256; D6). -/
def State.toHandler (s : State) (l h : Byte) : State := { s with p := { s.p with i := true }, pc := w16 h l }

/-- What a return does with the three bytes pulled: the flags from the first, PC from the other two, low byte first, with no
adjustment (R238, R261). -/
def State.fromHandler (s : State) (st l h : Byte) : State := { s with p := restoreFlags st, pc := w16 h l }

/-- Entering a handler, shared by BRK and by a hardware interrupt (R237, R256, R258): push the return address and P(brk), set I,
and load PC from the vector, which is read after the pushes. -/
def enterHandler (brk : Bool) (ret vec : Word) (s : State) : State :=
  let t := s.pushFrame brk ret
  t.toHandler (t.read vec) (t.read (vec + 1))

/-- InterruptEntry(vec): a hardware interrupt pushes the unadjusted PC and P(0) (R256). -/
def interruptEntry (vec : Word) (s : State) : State := enterHandler false s.pc vec s

/-- Returning from a handler (R238, R261): pull the flags, then PC, low byte first, with no adjustment. -/
def returnFromHandler (s : State) : State :=
  let s1 := s.popped
  let s2 := s1.popped
  s2.popped.fromHandler s.top s1.top s2.top

/-- What the interrupt controller decides at a step boundary (R252). -/
inductive Boundary where
  /-- Service an interrupt through `vec`, from the state with its request cleared. -/
  | service (vec : Word) (s : State)
  /-- Execute an instruction from this state. -/
  | proceed (s : State)
  deriving DecidableEq, Repr

/-- InterruptCheck(): NMI first, then an IRQ that I does not mask; a masked IRQ is kept, or dropped under IRQ_MASKED_DISCARD
(R252-R254). -/
def interruptCheck (s : State) : Boundary :=
  if s.nmiPending then .service nmiVector { s with nmiPending := false }
  else if s.irqPending && !s.p.i then .service irqVector { s with irqPending := false }
  else if s.irqPending && s.p.i && s.cfg.irqMaskedDiscard then .proceed { s with irqPending := false }
  else .proceed s

/-- What the fetch of an unmapped opcode leaves: the error latched and PC = op_addr + 1, nothing else (R123). -/
def latchDecodeError (s : State) : State :=
  { s with fault := some { opcode := s.read s.pc, addr := s.pc }, pc := s.pc + 1 }

end Sys2Proof.Machine
end

