-- ==== Sys2Proof/Machine/Operands.lean ====
section
/-! DEFINITION. Every operand form (30_encoding.md R84-R100), and the shapes of instruction over them: read, store, modify, on the
accumulator, immediate and implied. Each function takes the state at the step boundary, where PC is op_addr: fetching operand
bytes changes nothing but PC, and the indexes and pointers are read from that same state. -/

namespace Sys2Proof.Machine

/-- Where JMP (ind) reads the high byte of its target (R94). -/
def pointerHighAddr (ptr : Word) (s : State) : Word :=
  if s.cfg.jmpIndPageWrap then w16 (hi ptr) (lo ptr + 1) else ptr + 1

end Sys2Proof.Machine

namespace Sys2Proof

open Sys2Proof.Machine

/-- The effective address of a memory operand (R88-R96). -/
def MemRef.ea (r : MemRef) (s : State) : Word :=
  match r with
  | .zeroPage b => zext16 b
  | .zeroPageX b => zext16 (b + s.x)
  | .zeroPageY b => zext16 (b + s.y)
  | .absolute w => w
  | .absoluteX w => w + zext16 s.x
  | .absoluteY w => w + zext16 s.y
  | .indirect w => w16 (s.read (pointerHighAddr w s)) (s.read w)
  | .indirectX b => s.read16zp (b + s.x)
  | .indirectY b => s.read16zp b + zext16 s.y

/-- page_crossed of a memory operand: true only in AbsoluteX, AbsoluteY and IndirectY, when the addition changes the high byte
(R86, R92, R93, R96). -/
def MemRef.crossed (r : MemRef) (s : State) : Bool :=
  match r with
  | .zeroPage _ => false
  | .zeroPageX _ => false
  | .zeroPageY _ => false
  | .absolute _ => false
  | .absoluteX w => hi (w + zext16 s.x) != hi w
  | .absoluteY w => hi (w + zext16 s.y) != hi w
  | .indirect _ => false
  | .indirectX _ => false
  | .indirectY b => hi (s.read16zp b + zext16 s.y) != hi (s.read16zp b)

end Sys2Proof

namespace Sys2Proof.Machine

/-- The target of a branch: the signed displacement added to the address after the branch (R99). -/
def branchTarget (d : Byte) (s : State) : Word := s.pc + 2 + sext16 d

/-- resolve(mode): the effective address, where the mode has one, and page_crossed (R84). -/
def resolve (o : Operand) (s : State) : Option Word × Bool :=
  match o with
  | .implied => (none, false)
  | .accumulator => (none, false)
  | .immediate _ => (some (s.pc + 1), false)
  | .memory r => (some (r.ea s), r.crossed s)
  | .relative d => (some (branchTarget d s), hi (branchTarget d s) != hi (s.pc + 2))

/-- The operand byte M: the immediate value, the byte at ea, or A in Accumulator mode (R14, R87, R97, R190). -/
def operandByte (o : Operand) (s : State) : Option Byte :=
  match o with
  | .implied => none
  | .accumulator => some s.a
  | .immediate v => some v
  | .memory r => some (s.read (r.ea s))
  | .relative _ => none

/-- PC moved past an instruction of a mode (R24, R83). -/
def State.past (s : State) (m : Mode) : State := s.advance (BitVec.ofNat 16 m.length)

/-- An Immediate instruction: the operation runs on the value in the instruction stream (R87). -/
def immediateForm (op : Byte → State → State) (v : Byte) (s : State) : Result := .next (op v (s.past .immediate))

/-- An instruction that reads the byte at ea: one read, then the operation (R14, R100). -/
def readForm (op : Byte → State → State) (r : MemRef) (s : State) : Result :=
  .next (op (s.read (r.ea s)) (s.past r.mode))

/-- A store: one write of ea, which is not read, and no flag (R143-R145, R100). -/
def storeForm (val : State → Byte) (r : MemRef) (s : State) : Result :=
  .next ((s.past r.mode).write (r.ea s) (val s))

/-- A read-modify-write on memory: one read, then one write of the same address (R56, R66, R190). -/
def modifyForm (f : Byte → Flags → Byte × Flags) (r : MemRef) (s : State) : Result :=
  let m := f (s.read (r.ea s)) s.p
  let t := (s.past r.mode).write (r.ea s) m.1
  .next { t with p := m.2 }

/-- The same on the accumulator (R97, R190). -/
def accumulatorForm (f : Byte → Flags → Byte × Flags) (s : State) : Result :=
  let m := f s.a s.p
  .next { s.past .accumulator with a := m.1, p := m.2 }

/-- An Implied instruction: PC has moved past the opcode when the operation runs (R98, R122). -/
def impliedForm (op : State → State) (s : State) : Result := .next (op (s.past .implied))

end Sys2Proof.Machine
end

