-- ==== Sys2Proof/Machine/Arithmetic.lean ====
section
/-! DEFINITION. Arithmetic, logic, compares, bit test, increment and decrement (42_arithmetic_logic.md, R160-R179). -/

namespace Sys2Proof.Machine

/-- ADC: A takes A + M + C (R163). -/
def adcOp (v : Byte) (s : State) : State :=
  let r := addWithCarry s.a v s.p
  { s with a := r.1, p := r.2 }

/-- SBC: A takes A + ~M + C (R164). -/
def sbcOp (v : Byte) (s : State) : State :=
  let r := addWithCarry s.a (~~~v) s.p
  { s with a := r.1, p := r.2 }

/-- AND (R165). -/
def andOp (v : Byte) (s : State) : State := { s with a := s.a &&& v, p := s.p.setZN (s.a &&& v) }

/-- ORA (R166). -/
def oraOp (v : Byte) (s : State) : State := { s with a := s.a ||| v, p := s.p.setZN (s.a ||| v) }

/-- EOR (R167). -/
def eorOp (v : Byte) (s : State) : State := { s with a := s.a ^^^ v, p := s.p.setZN (s.a ^^^ v) }

/-- CMP: flags only (R168). -/
def cmpOp (v : Byte) (s : State) : State := { s with p := compareFlags s.a v s.p }

/-- CPX: flags only (R169). -/
def cpxOp (v : Byte) (s : State) : State := { s with p := compareFlags s.x v s.p }

/-- CPY: flags only (R170). -/
def cpyOp (v : Byte) (s : State) : State := { s with p := compareFlags s.y v s.p }

/-- BIT: flags only (R171). -/
def bitOp (v : Byte) (s : State) : State := { s with p := bitTest s.a v s.p }

/-- INX (R174). -/
def inxOp (s : State) : State := { s with x := s.x + 1, p := s.p.setZN (s.x + 1) }

/-- INY (R175). -/
def inyOp (s : State) : State := { s with y := s.y + 1, p := s.p.setZN (s.y + 1) }

/-- DEX (R176). -/
def dexOp (s : State) : State := { s with x := s.x - 1, p := s.p.setZN (s.x - 1) }

/-- DEY (R177). -/
def deyOp (s : State) : State := { s with y := s.y - 1, p := s.p.setZN (s.y - 1) }

/-- ADC Immediate, 0x69 (R163). -/
@[simp] def execAdcImmediate (v : Byte) (s : State) : Result := immediateForm adcOp v s

/-- ADC ZeroPage, 0x65 (R163). -/
@[simp] def execAdcZeroPage (b : Byte) (s : State) : Result := readForm adcOp (.zeroPage b) s

/-- ADC ZeroPageX, 0x75 (R163). -/
@[simp] def execAdcZeroPageX (b : Byte) (s : State) : Result := readForm adcOp (.zeroPageX b) s

/-- ADC Absolute, 0x6D (R163). -/
@[simp] def execAdcAbsolute (w : Word) (s : State) : Result := readForm adcOp (.absolute w) s

/-- ADC AbsoluteX, 0x7D (R163). -/
@[simp] def execAdcAbsoluteX (w : Word) (s : State) : Result := readForm adcOp (.absoluteX w) s

/-- ADC AbsoluteY, 0x79 (R163). -/
@[simp] def execAdcAbsoluteY (w : Word) (s : State) : Result := readForm adcOp (.absoluteY w) s

/-- ADC IndirectX, 0x61 (R163). -/
@[simp] def execAdcIndirectX (b : Byte) (s : State) : Result := readForm adcOp (.indirectX b) s

/-- ADC IndirectY, 0x71 (R163). -/
@[simp] def execAdcIndirectY (b : Byte) (s : State) : Result := readForm adcOp (.indirectY b) s

/-- SBC Immediate, 0xE9 (R164). -/
@[simp] def execSbcImmediate (v : Byte) (s : State) : Result := immediateForm sbcOp v s

/-- SBC ZeroPage, 0xE5 (R164). -/
@[simp] def execSbcZeroPage (b : Byte) (s : State) : Result := readForm sbcOp (.zeroPage b) s

/-- SBC ZeroPageX, 0xF5 (R164). -/
@[simp] def execSbcZeroPageX (b : Byte) (s : State) : Result := readForm sbcOp (.zeroPageX b) s

/-- SBC Absolute, 0xED (R164). -/
@[simp] def execSbcAbsolute (w : Word) (s : State) : Result := readForm sbcOp (.absolute w) s

/-- SBC AbsoluteX, 0xFD (R164). -/
@[simp] def execSbcAbsoluteX (w : Word) (s : State) : Result := readForm sbcOp (.absoluteX w) s

/-- SBC AbsoluteY, 0xF9 (R164). -/
@[simp] def execSbcAbsoluteY (w : Word) (s : State) : Result := readForm sbcOp (.absoluteY w) s

/-- SBC IndirectX, 0xE1 (R164). -/
@[simp] def execSbcIndirectX (b : Byte) (s : State) : Result := readForm sbcOp (.indirectX b) s

/-- SBC IndirectY, 0xF1 (R164). -/
@[simp] def execSbcIndirectY (b : Byte) (s : State) : Result := readForm sbcOp (.indirectY b) s

/-- AND Immediate, 0x29 (R165). -/
@[simp] def execAndImmediate (v : Byte) (s : State) : Result := immediateForm andOp v s

/-- AND ZeroPage, 0x25 (R165). -/
@[simp] def execAndZeroPage (b : Byte) (s : State) : Result := readForm andOp (.zeroPage b) s

/-- AND ZeroPageX, 0x35 (R165). -/
@[simp] def execAndZeroPageX (b : Byte) (s : State) : Result := readForm andOp (.zeroPageX b) s

/-- AND Absolute, 0x2D (R165). -/
@[simp] def execAndAbsolute (w : Word) (s : State) : Result := readForm andOp (.absolute w) s

/-- AND AbsoluteX, 0x3D (R165). -/
@[simp] def execAndAbsoluteX (w : Word) (s : State) : Result := readForm andOp (.absoluteX w) s

/-- AND AbsoluteY, 0x39 (R165). -/
@[simp] def execAndAbsoluteY (w : Word) (s : State) : Result := readForm andOp (.absoluteY w) s

/-- AND IndirectX, 0x21 (R165). -/
@[simp] def execAndIndirectX (b : Byte) (s : State) : Result := readForm andOp (.indirectX b) s

/-- AND IndirectY, 0x31 (R165). -/
@[simp] def execAndIndirectY (b : Byte) (s : State) : Result := readForm andOp (.indirectY b) s

/-- ORA Immediate, 0x09 (R166). -/
@[simp] def execOraImmediate (v : Byte) (s : State) : Result := immediateForm oraOp v s

/-- ORA ZeroPage, 0x05 (R166). -/
@[simp] def execOraZeroPage (b : Byte) (s : State) : Result := readForm oraOp (.zeroPage b) s

/-- ORA ZeroPageX, 0x15 (R166). -/
@[simp] def execOraZeroPageX (b : Byte) (s : State) : Result := readForm oraOp (.zeroPageX b) s

/-- ORA Absolute, 0x0D (R166). -/
@[simp] def execOraAbsolute (w : Word) (s : State) : Result := readForm oraOp (.absolute w) s

/-- ORA AbsoluteX, 0x1D (R166). -/
@[simp] def execOraAbsoluteX (w : Word) (s : State) : Result := readForm oraOp (.absoluteX w) s

/-- ORA AbsoluteY, 0x19 (R166). -/
@[simp] def execOraAbsoluteY (w : Word) (s : State) : Result := readForm oraOp (.absoluteY w) s

/-- ORA IndirectX, 0x01 (R166). -/
@[simp] def execOraIndirectX (b : Byte) (s : State) : Result := readForm oraOp (.indirectX b) s

/-- ORA IndirectY, 0x11 (R166). -/
@[simp] def execOraIndirectY (b : Byte) (s : State) : Result := readForm oraOp (.indirectY b) s

/-- EOR Immediate, 0x49 (R167). -/
@[simp] def execEorImmediate (v : Byte) (s : State) : Result := immediateForm eorOp v s

/-- EOR ZeroPage, 0x45 (R167). -/
@[simp] def execEorZeroPage (b : Byte) (s : State) : Result := readForm eorOp (.zeroPage b) s

/-- EOR ZeroPageX, 0x55 (R167). -/
@[simp] def execEorZeroPageX (b : Byte) (s : State) : Result := readForm eorOp (.zeroPageX b) s

/-- EOR Absolute, 0x4D (R167). -/
@[simp] def execEorAbsolute (w : Word) (s : State) : Result := readForm eorOp (.absolute w) s

/-- EOR AbsoluteX, 0x5D (R167). -/
@[simp] def execEorAbsoluteX (w : Word) (s : State) : Result := readForm eorOp (.absoluteX w) s

/-- EOR AbsoluteY, 0x59 (R167). -/
@[simp] def execEorAbsoluteY (w : Word) (s : State) : Result := readForm eorOp (.absoluteY w) s

/-- EOR IndirectX, 0x41 (R167). -/
@[simp] def execEorIndirectX (b : Byte) (s : State) : Result := readForm eorOp (.indirectX b) s

/-- EOR IndirectY, 0x51 (R167). -/
@[simp] def execEorIndirectY (b : Byte) (s : State) : Result := readForm eorOp (.indirectY b) s

/-- CMP Immediate, 0xC9 (R168). -/
@[simp] def execCmpImmediate (v : Byte) (s : State) : Result := immediateForm cmpOp v s

/-- CMP ZeroPage, 0xC5 (R168). -/
@[simp] def execCmpZeroPage (b : Byte) (s : State) : Result := readForm cmpOp (.zeroPage b) s

/-- CMP ZeroPageX, 0xD5 (R168). -/
@[simp] def execCmpZeroPageX (b : Byte) (s : State) : Result := readForm cmpOp (.zeroPageX b) s

/-- CMP Absolute, 0xCD (R168). -/
@[simp] def execCmpAbsolute (w : Word) (s : State) : Result := readForm cmpOp (.absolute w) s

/-- CMP AbsoluteX, 0xDD (R168). -/
@[simp] def execCmpAbsoluteX (w : Word) (s : State) : Result := readForm cmpOp (.absoluteX w) s

/-- CMP AbsoluteY, 0xD9 (R168). -/
@[simp] def execCmpAbsoluteY (w : Word) (s : State) : Result := readForm cmpOp (.absoluteY w) s

/-- CMP IndirectX, 0xC1 (R168). -/
@[simp] def execCmpIndirectX (b : Byte) (s : State) : Result := readForm cmpOp (.indirectX b) s

/-- CMP IndirectY, 0xD1 (R168). -/
@[simp] def execCmpIndirectY (b : Byte) (s : State) : Result := readForm cmpOp (.indirectY b) s

/-- CPX Immediate, 0xE0 (R169). -/
@[simp] def execCpxImmediate (v : Byte) (s : State) : Result := immediateForm cpxOp v s

/-- CPX ZeroPage, 0xE4 (R169). -/
@[simp] def execCpxZeroPage (b : Byte) (s : State) : Result := readForm cpxOp (.zeroPage b) s

/-- CPX Absolute, 0xEC (R169). -/
@[simp] def execCpxAbsolute (w : Word) (s : State) : Result := readForm cpxOp (.absolute w) s

/-- CPY Immediate, 0xC0 (R170). -/
@[simp] def execCpyImmediate (v : Byte) (s : State) : Result := immediateForm cpyOp v s

/-- CPY ZeroPage, 0xC4 (R170). -/
@[simp] def execCpyZeroPage (b : Byte) (s : State) : Result := readForm cpyOp (.zeroPage b) s

/-- CPY Absolute, 0xCC (R170). -/
@[simp] def execCpyAbsolute (w : Word) (s : State) : Result := readForm cpyOp (.absolute w) s

/-- BIT ZeroPage, 0x24 (R171). -/
@[simp] def execBitZeroPage (b : Byte) (s : State) : Result := readForm bitOp (.zeroPage b) s

/-- BIT Absolute, 0x2C (R171). -/
@[simp] def execBitAbsolute (w : Word) (s : State) : Result := readForm bitOp (.absolute w) s

/-- INC ZeroPage, 0xE6 (R172). -/
@[simp] def execIncZeroPage (b : Byte) (s : State) : Result := modifyForm increment (.zeroPage b) s

/-- INC ZeroPageX, 0xF6 (R172). -/
@[simp] def execIncZeroPageX (b : Byte) (s : State) : Result := modifyForm increment (.zeroPageX b) s

/-- INC Absolute, 0xEE (R172). -/
@[simp] def execIncAbsolute (w : Word) (s : State) : Result := modifyForm increment (.absolute w) s

/-- INC AbsoluteX, 0xFE (R172). -/
@[simp] def execIncAbsoluteX (w : Word) (s : State) : Result := modifyForm increment (.absoluteX w) s

/-- DEC ZeroPage, 0xC6 (R173). -/
@[simp] def execDecZeroPage (b : Byte) (s : State) : Result := modifyForm decrement (.zeroPage b) s

/-- DEC ZeroPageX, 0xD6 (R173). -/
@[simp] def execDecZeroPageX (b : Byte) (s : State) : Result := modifyForm decrement (.zeroPageX b) s

/-- DEC Absolute, 0xCE (R173). -/
@[simp] def execDecAbsolute (w : Word) (s : State) : Result := modifyForm decrement (.absolute w) s

/-- DEC AbsoluteX, 0xDE (R173). -/
@[simp] def execDecAbsoluteX (w : Word) (s : State) : Result := modifyForm decrement (.absoluteX w) s

/-- INX Implied, 0xE8 (R174). -/
@[simp] def execInx (s : State) : Result := impliedForm inxOp s

/-- INY Implied, 0xC8 (R175). -/
@[simp] def execIny (s : State) : Result := impliedForm inyOp s

/-- DEX Implied, 0xCA (R176). -/
@[simp] def execDex (s : State) : Result := impliedForm dexOp s

/-- DEY Implied, 0x88 (R177). -/
@[simp] def execDey (s : State) : Result := impliedForm deyOp s

end Sys2Proof.Machine
end

