-- ==== Sys2Proof/Machine/Control.lean ====
section
/-! DEFINITION. Branches, jumps and subroutines (45_branch_jump_subroutine.md, R210-R222). -/

namespace Sys2Proof.Machine

/-- BPL branches if N = 0 (R211). -/
def condBpl (f : Flags) : Bool := !f.n

/-- BMI branches if N = 1 (R212). -/
def condBmi (f : Flags) : Bool := f.n

/-- BVC branches if V = 0 (R213). -/
def condBvc (f : Flags) : Bool := !f.v

/-- BVS branches if V = 1 (R214). -/
def condBvs (f : Flags) : Bool := f.v

/-- BCC branches if C = 0 (R215). -/
def condBcc (f : Flags) : Bool := !f.c

/-- BCS branches if C = 1 (R216). -/
def condBcs (f : Flags) : Bool := f.c

/-- BNE branches if Z = 0 (R217). -/
def condBne (f : Flags) : Bool := !f.z

/-- BEQ branches if Z = 1 (R218). -/
def condBeq (f : Flags) : Bool := f.z

/-- Branch(cond): PC takes the target when the condition holds, and stays at the next instruction otherwise; no flag is
written (R210). -/
def branchForm (cond : Flags → Bool) (d : Byte) (s : State) : Result :=
  .next { s with pc := if cond s.p then branchTarget d s else s.pc + 2 }

/-- JMP: PC takes the resolved address (R219). -/
def jumpForm (r : MemRef) (s : State) : Result := .next { s with pc := r.ea s }

/-- JSR, run with PC past its three bytes: push PC - 1, high byte first, then jump (R220). -/
def jsrOp (w : Word) (s : State) : State :=
  let ret := s.pc - 1
  { (s.push (hi ret)).push (lo ret) with pc := w }

/-- What RTS does with the two bytes pulled: PC goes one past the address they form (R221). -/
def State.toCaller (s : State) (l h : Byte) : State := { s with pc := w16 h l + 1 }

/-- RTS: pull the low byte, then the high byte, and jump one past the pulled address (R221). -/
def rtsOp (s : State) : State :=
  let s1 := s.popped
  s1.popped.toCaller s.top s1.top

/-- BPL Relative, 0x10 (R211). -/
@[simp] def execBpl (d : Byte) (s : State) : Result := branchForm condBpl d s

/-- BMI Relative, 0x30 (R212). -/
@[simp] def execBmi (d : Byte) (s : State) : Result := branchForm condBmi d s

/-- BVC Relative, 0x50 (R213). -/
@[simp] def execBvc (d : Byte) (s : State) : Result := branchForm condBvc d s

/-- BVS Relative, 0x70 (R214). -/
@[simp] def execBvs (d : Byte) (s : State) : Result := branchForm condBvs d s

/-- BCC Relative, 0x90 (R215). -/
@[simp] def execBcc (d : Byte) (s : State) : Result := branchForm condBcc d s

/-- BCS Relative, 0xB0 (R216). -/
@[simp] def execBcs (d : Byte) (s : State) : Result := branchForm condBcs d s

/-- BNE Relative, 0xD0 (R217). -/
@[simp] def execBne (d : Byte) (s : State) : Result := branchForm condBne d s

/-- BEQ Relative, 0xF0 (R218). -/
@[simp] def execBeq (d : Byte) (s : State) : Result := branchForm condBeq d s

/-- JMP Absolute, 0x4C (R219). -/
@[simp] def execJmpAbsolute (w : Word) (s : State) : Result := jumpForm (.absolute w) s

/-- JMP Indirect, 0x6C (R219). -/
@[simp] def execJmpIndirect (w : Word) (s : State) : Result := jumpForm (.indirect w) s

/-- JSR Absolute, 0x20 (R220). -/
@[simp] def execJsr (w : Word) (s : State) : Result := .next (jsrOp w (s.advance 3))

/-- RTS Implied, 0x60 (R221). -/
@[simp] def execRts (s : State) : Result := impliedForm rtsOp s

end Sys2Proof.Machine
end

