-- ==== Sys2Proof/Machine/FlagOps.lean ====
section
/-! DEFINITION. Flag set and clear, and NOP (44_flags_nop.md, R200-R207). -/

namespace Sys2Proof.Machine

/-- CLC (R200). -/
def clcOp (s : State) : State := { s with p := { s.p with c := false } }

/-- SEC (R201). -/
def secOp (s : State) : State := { s with p := { s.p with c := true } }

/-- CLI (R202). -/
def cliOp (s : State) : State := { s with p := { s.p with i := false } }

/-- SEI (R203). -/
def seiOp (s : State) : State := { s with p := { s.p with i := true } }

/-- CLV (R204). -/
def clvOp (s : State) : State := { s with p := { s.p with v := false } }

/-- CLD (R205). -/
def cldOp (s : State) : State := { s with p := { s.p with d := false } }

/-- SED (R206). -/
def sedOp (s : State) : State := { s with p := { s.p with d := true } }

/-- NOP: nothing but PC's advance (R207). -/
def nopOp (s : State) : State := s

/-- CLC Implied, 0x18 (R200). -/
@[simp] def execClc (s : State) : Result := impliedForm clcOp s

/-- SEC Implied, 0x38 (R201). -/
@[simp] def execSec (s : State) : Result := impliedForm secOp s

/-- CLI Implied, 0x58 (R202). -/
@[simp] def execCli (s : State) : Result := impliedForm cliOp s

/-- SEI Implied, 0x78 (R203). -/
@[simp] def execSei (s : State) : Result := impliedForm seiOp s

/-- CLV Implied, 0xB8 (R204). -/
@[simp] def execClv (s : State) : Result := impliedForm clvOp s

/-- CLD Implied, 0xD8 (R205). -/
@[simp] def execCld (s : State) : Result := impliedForm cldOp s

/-- SED Implied, 0xF8 (R206). -/
@[simp] def execSed (s : State) : Result := impliedForm sedOp s

/-- NOP Implied, 0xEA (R207). -/
@[simp] def execNop (s : State) : Result := impliedForm nopOp s

end Sys2Proof.Machine
end

