-- ==== Sys2Proof/Machine/LoadStore.lean ====
section
/-! DEFINITION. Loads, stores and register transfers (41_load_store_transfer.md, R140-R151). -/

namespace Sys2Proof.Machine

/-- LDA: A takes the operand (R140). -/
def ldaOp (v : Byte) (s : State) : State := { s with a := v, p := s.p.setZN v }

/-- LDX: X takes the operand (R141). -/
def ldxOp (v : Byte) (s : State) : State := { s with x := v, p := s.p.setZN v }

/-- LDY: Y takes the operand (R142). -/
def ldyOp (v : Byte) (s : State) : State := { s with y := v, p := s.p.setZN v }

/-- TAX: X takes A (R146). -/
def taxOp (s : State) : State := { s with x := s.a, p := s.p.setZN s.a }

/-- TAY: Y takes A (R147). -/
def tayOp (s : State) : State := { s with y := s.a, p := s.p.setZN s.a }

/-- TXA: A takes X (R148). -/
def txaOp (s : State) : State := { s with a := s.x, p := s.p.setZN s.x }

/-- TYA: A takes Y (R149). -/
def tyaOp (s : State) : State := { s with a := s.y, p := s.p.setZN s.y }

/-- TSX: X takes S (R150). -/
def tsxOp (s : State) : State := { s with x := s.sp, p := s.p.setZN s.sp }

/-- TXS: S takes X, and no flag is written (R151). -/
def txsOp (s : State) : State := { s with sp := s.x }

/-- LDA Immediate, 0xA9 (R140). -/
@[simp] def execLdaImmediate (v : Byte) (s : State) : Result := immediateForm ldaOp v s

/-- LDA ZeroPage, 0xA5 (R140). -/
@[simp] def execLdaZeroPage (b : Byte) (s : State) : Result := readForm ldaOp (.zeroPage b) s

/-- LDA ZeroPageX, 0xB5 (R140). -/
@[simp] def execLdaZeroPageX (b : Byte) (s : State) : Result := readForm ldaOp (.zeroPageX b) s

/-- LDA Absolute, 0xAD (R140). -/
@[simp] def execLdaAbsolute (w : Word) (s : State) : Result := readForm ldaOp (.absolute w) s

/-- LDA AbsoluteX, 0xBD (R140). -/
@[simp] def execLdaAbsoluteX (w : Word) (s : State) : Result := readForm ldaOp (.absoluteX w) s

/-- LDA AbsoluteY, 0xB9 (R140). -/
@[simp] def execLdaAbsoluteY (w : Word) (s : State) : Result := readForm ldaOp (.absoluteY w) s

/-- LDA IndirectX, 0xA1 (R140). -/
@[simp] def execLdaIndirectX (b : Byte) (s : State) : Result := readForm ldaOp (.indirectX b) s

/-- LDA IndirectY, 0xB1 (R140). -/
@[simp] def execLdaIndirectY (b : Byte) (s : State) : Result := readForm ldaOp (.indirectY b) s

/-- LDX Immediate, 0xA2 (R141). -/
@[simp] def execLdxImmediate (v : Byte) (s : State) : Result := immediateForm ldxOp v s

/-- LDX ZeroPage, 0xA6 (R141). -/
@[simp] def execLdxZeroPage (b : Byte) (s : State) : Result := readForm ldxOp (.zeroPage b) s

/-- LDX ZeroPageY, 0xB6 (R141). -/
@[simp] def execLdxZeroPageY (b : Byte) (s : State) : Result := readForm ldxOp (.zeroPageY b) s

/-- LDX Absolute, 0xAE (R141). -/
@[simp] def execLdxAbsolute (w : Word) (s : State) : Result := readForm ldxOp (.absolute w) s

/-- LDX AbsoluteY, 0xBE (R141). -/
@[simp] def execLdxAbsoluteY (w : Word) (s : State) : Result := readForm ldxOp (.absoluteY w) s

/-- LDY Immediate, 0xA0 (R142). -/
@[simp] def execLdyImmediate (v : Byte) (s : State) : Result := immediateForm ldyOp v s

/-- LDY ZeroPage, 0xA4 (R142). -/
@[simp] def execLdyZeroPage (b : Byte) (s : State) : Result := readForm ldyOp (.zeroPage b) s

/-- LDY ZeroPageX, 0xB4 (R142). -/
@[simp] def execLdyZeroPageX (b : Byte) (s : State) : Result := readForm ldyOp (.zeroPageX b) s

/-- LDY Absolute, 0xAC (R142). -/
@[simp] def execLdyAbsolute (w : Word) (s : State) : Result := readForm ldyOp (.absolute w) s

/-- LDY AbsoluteX, 0xBC (R142). -/
@[simp] def execLdyAbsoluteX (w : Word) (s : State) : Result := readForm ldyOp (.absoluteX w) s

/-- STA ZeroPage, 0x85 (R143). -/
@[simp] def execStaZeroPage (b : Byte) (s : State) : Result := storeForm (·.a) (.zeroPage b) s

/-- STA ZeroPageX, 0x95 (R143). -/
@[simp] def execStaZeroPageX (b : Byte) (s : State) : Result := storeForm (·.a) (.zeroPageX b) s

/-- STA Absolute, 0x8D (R143). -/
@[simp] def execStaAbsolute (w : Word) (s : State) : Result := storeForm (·.a) (.absolute w) s

/-- STA AbsoluteX, 0x9D (R143). -/
@[simp] def execStaAbsoluteX (w : Word) (s : State) : Result := storeForm (·.a) (.absoluteX w) s

/-- STA AbsoluteY, 0x99 (R143). -/
@[simp] def execStaAbsoluteY (w : Word) (s : State) : Result := storeForm (·.a) (.absoluteY w) s

/-- STA IndirectX, 0x81 (R143). -/
@[simp] def execStaIndirectX (b : Byte) (s : State) : Result := storeForm (·.a) (.indirectX b) s

/-- STA IndirectY, 0x91 (R143). -/
@[simp] def execStaIndirectY (b : Byte) (s : State) : Result := storeForm (·.a) (.indirectY b) s

/-- STX ZeroPage, 0x86 (R144). -/
@[simp] def execStxZeroPage (b : Byte) (s : State) : Result := storeForm (·.x) (.zeroPage b) s

/-- STX ZeroPageY, 0x96 (R144). -/
@[simp] def execStxZeroPageY (b : Byte) (s : State) : Result := storeForm (·.x) (.zeroPageY b) s

/-- STX Absolute, 0x8E (R144). -/
@[simp] def execStxAbsolute (w : Word) (s : State) : Result := storeForm (·.x) (.absolute w) s

/-- STY ZeroPage, 0x84 (R145). -/
@[simp] def execStyZeroPage (b : Byte) (s : State) : Result := storeForm (·.y) (.zeroPage b) s

/-- STY ZeroPageX, 0x94 (R145). -/
@[simp] def execStyZeroPageX (b : Byte) (s : State) : Result := storeForm (·.y) (.zeroPageX b) s

/-- STY Absolute, 0x8C (R145). -/
@[simp] def execStyAbsolute (w : Word) (s : State) : Result := storeForm (·.y) (.absolute w) s

/-- TAX Implied, 0xAA (R146). -/
@[simp] def execTax (s : State) : Result := impliedForm taxOp s

/-- TAY Implied, 0xA8 (R147). -/
@[simp] def execTay (s : State) : Result := impliedForm tayOp s

/-- TXA Implied, 0x8A (R148). -/
@[simp] def execTxa (s : State) : Result := impliedForm txaOp s

/-- TYA Implied, 0x98 (R149). -/
@[simp] def execTya (s : State) : Result := impliedForm tyaOp s

/-- TSX Implied, 0xBA (R150). -/
@[simp] def execTsx (s : State) : Result := impliedForm tsxOp s

/-- TXS Implied, 0x9A (R151). -/
@[simp] def execTxs (s : State) : Result := impliedForm txsOp s

end Sys2Proof.Machine
end

