-- ==== Sys2Proof/Machine/Shifts.lean ====
section
/-! DEFINITION. Shifts and rotates, on A or on a byte of memory (43_shift_rotate.md, R190-R194). -/

namespace Sys2Proof.Machine

/-- ASL Accumulator, 0x0A (R191). -/
@[simp] def execAslAccumulator (s : State) : Result := accumulatorForm shiftLeft s

/-- ASL ZeroPage, 0x06 (R191). -/
@[simp] def execAslZeroPage (b : Byte) (s : State) : Result := modifyForm shiftLeft (.zeroPage b) s

/-- ASL ZeroPageX, 0x16 (R191). -/
@[simp] def execAslZeroPageX (b : Byte) (s : State) : Result := modifyForm shiftLeft (.zeroPageX b) s

/-- ASL Absolute, 0x0E (R191). -/
@[simp] def execAslAbsolute (w : Word) (s : State) : Result := modifyForm shiftLeft (.absolute w) s

/-- ASL AbsoluteX, 0x1E (R191). -/
@[simp] def execAslAbsoluteX (w : Word) (s : State) : Result := modifyForm shiftLeft (.absoluteX w) s

/-- LSR Accumulator, 0x4A (R192). -/
@[simp] def execLsrAccumulator (s : State) : Result := accumulatorForm shiftRight s

/-- LSR ZeroPage, 0x46 (R192). -/
@[simp] def execLsrZeroPage (b : Byte) (s : State) : Result := modifyForm shiftRight (.zeroPage b) s

/-- LSR ZeroPageX, 0x56 (R192). -/
@[simp] def execLsrZeroPageX (b : Byte) (s : State) : Result := modifyForm shiftRight (.zeroPageX b) s

/-- LSR Absolute, 0x4E (R192). -/
@[simp] def execLsrAbsolute (w : Word) (s : State) : Result := modifyForm shiftRight (.absolute w) s

/-- LSR AbsoluteX, 0x5E (R192). -/
@[simp] def execLsrAbsoluteX (w : Word) (s : State) : Result := modifyForm shiftRight (.absoluteX w) s

/-- ROL Accumulator, 0x2A (R193). -/
@[simp] def execRolAccumulator (s : State) : Result := accumulatorForm rotateLeft s

/-- ROL ZeroPage, 0x26 (R193). -/
@[simp] def execRolZeroPage (b : Byte) (s : State) : Result := modifyForm rotateLeft (.zeroPage b) s

/-- ROL ZeroPageX, 0x36 (R193). -/
@[simp] def execRolZeroPageX (b : Byte) (s : State) : Result := modifyForm rotateLeft (.zeroPageX b) s

/-- ROL Absolute, 0x2E (R193). -/
@[simp] def execRolAbsolute (w : Word) (s : State) : Result := modifyForm rotateLeft (.absolute w) s

/-- ROL AbsoluteX, 0x3E (R193). -/
@[simp] def execRolAbsoluteX (w : Word) (s : State) : Result := modifyForm rotateLeft (.absoluteX w) s

/-- ROR Accumulator, 0x6A (R194). -/
@[simp] def execRorAccumulator (s : State) : Result := accumulatorForm rotateRight s

/-- ROR ZeroPage, 0x66 (R194). -/
@[simp] def execRorZeroPage (b : Byte) (s : State) : Result := modifyForm rotateRight (.zeroPage b) s

/-- ROR ZeroPageX, 0x76 (R194). -/
@[simp] def execRorZeroPageX (b : Byte) (s : State) : Result := modifyForm rotateRight (.zeroPageX b) s

/-- ROR Absolute, 0x6E (R194). -/
@[simp] def execRorAbsolute (w : Word) (s : State) : Result := modifyForm rotateRight (.absolute w) s

/-- ROR AbsoluteX, 0x7E (R194). -/
@[simp] def execRorAbsoluteX (w : Word) (s : State) : Result := modifyForm rotateRight (.absoluteX w) s

end Sys2Proof.Machine
end

