-- ==== Sys2Proof/Machine/Stack.lean ====
section
/-! DEFINITION. Stack instructions, BRK and RTI (46_stack_brk_rti.md, R233-R238). -/

namespace Sys2Proof.Machine

/-- PHA (R233). -/
def phaOp (s : State) : State := s.push s.a

/-- PHP: the pushed byte has the break bit 1 (R234). -/
def phpOp (s : State) : State := s.push (s.p.status true)

/-- What PLA does with the byte pulled: A takes it, and Z and N are its own (R235). -/
def plaTake (v : Byte) (s : State) : State := { s with a := v, p := s.p.setZN v }

/-- PLA: Z and N from the pulled byte (R235). -/
def plaOp (s : State) : State := plaTake s.top s.popped

/-- What PLP does with the byte pulled: all six flags are taken from it (R236). -/
def plpTake (v : Byte) (s : State) : State := { s with p := restoreFlags v }

/-- PLP: all six flags from the pulled byte (R236). -/
def plpOp (s : State) : State := plpTake s.top s.popped

/-- BRK, run with PC past its opcode: the return address is op_addr + BRK_RETURN_OFFSET (R237). -/
def brkOp (s : State) : State := enterHandler true (s.pc - 1 + s.cfg.brkReturnOffset.toWord) irqVector s

/-- RTI (R238). -/
def rtiOp (s : State) : State := returnFromHandler s

/-- PHA Implied, 0x48 (R233). -/
@[simp] def execPha (s : State) : Result := impliedForm phaOp s

/-- PHP Implied, 0x08 (R234). -/
@[simp] def execPhp (s : State) : Result := impliedForm phpOp s

/-- PLA Implied, 0x68 (R235). -/
@[simp] def execPla (s : State) : Result := impliedForm plaOp s

/-- PLP Implied, 0x28 (R236). -/
@[simp] def execPlp (s : State) : Result := impliedForm plpOp s

/-- BRK Implied, 0x00 (R237). -/
@[simp] def execBrk (s : State) : Result := impliedForm brkOp s

/-- RTI Implied, 0x40 (R238). -/
@[simp] def execRti (s : State) : Result := impliedForm rtiOp s

end Sys2Proof.Machine
end

