-- ==== Sys2Proof/Machine/Fetch.lean ====
section
/-! DEFINITION. Fetching and decoding the instruction at PC (R122-R124). The three bytes from PC on are decoded together; a mode uses
only the operand bytes it has (R81). Reading a byte of this memory changes nothing (log entry 2), so that looking at a byte the
instruction does not own is not an access of the CORE: the accesses it makes are those of Machine/Access.lean (log entry 8). -/

namespace Sys2Proof.Machine

/-- The instruction at PC, its operand bytes at the next addresses mod 65536 (R80, R81); none where the opcode is unmapped. -/
def fetchInstr (s : State) : Option Instr :=
  decodeOpcode (s.read s.pc) (s.read (s.pc + 1)) (s.read (s.pc + 2))

/-- `s` with the three bytes of a table word stored at PC. -/
def State.placeBytes (s : State) (b : Byte × Byte × Byte) : State :=
  ((s.write s.pc b.1).write (s.pc + 1) b.2.1).write (s.pc + 2) b.2.2

/-- `s` with nothing that keeps the next step from fetching: no latched fault, no NMI, no IRQ that I does not mask. A masked IRQ
stays. -/
def State.readyToFetch (s : State) : State :=
  { s with fault := none, nmiPending := false, irqPending := s.irqPending && s.p.i }

end Sys2Proof.Machine
end

