-- ==== Sys2Proof/Machine/Step.lean ====
section
/-! DEFINITION. One step of the engine (40_execution_engine.md R120, R121): the fault latch, the interrupt check, then fetch, decode
and execute. -/

namespace Sys2Proof.Machine

/-- Step() (R120). A latched fault is returned again (R126); an interrupt is serviced (R252, R256); otherwise the instruction at PC
is executed whole, or its unmapped opcode is a decode error (R123). What a faulting step leaves in the state is `afterStep`
(log entry 6), and what a step costs is `stepCost` (log entry 7). -/
def step (s : State) : Host.Outcome State Fault Refusal :=
  match s.fault with
  | some e => .fault (.decodeError e.opcode e.addr)
  | none =>
    match interruptCheck s with
    | .service vec t => .next (interruptEntry vec t)
    | .proceed t =>
      match fetchInstr t with
      | some i => exec i t
      | none => .fault (.decodeError (t.read t.pc) t.pc)

/-- `s` with an instruction of the opcode table stored at PC, where the next step fetches, and nothing in the way of that fetch
(log entry 5). -/
def State.withFetchWord (s : State) (nbits w : Nat) : State := (s.placeBytes (tableBytes nbits w)).readyToFetch

end Sys2Proof.Machine
end

