-- ==== Sys2Proof/Machine/Actions.lean ====
section
/-! DEFINITION. What each operation does apart from its addressing mode: which kind of access it makes and which shared operation it
runs. The cycle costs, the access sequences and the CORE's program on its memory interface are written from this one table. -/

namespace Sys2Proof.Machine

/-- The kinds of operation, by the accesses they make (R56, R58). -/
inductive Action where
  /-- One read of the operand, then an operation on the byte. -/
  | read (op : Byte → State → State)
  /-- One write of the operand, which is not read. -/
  | store (val : State → Byte)
  /-- One read and one write of the operand, or the accumulator. -/
  | modify (f : Byte → Flags → Byte × Flags)
  /-- PC takes the target when the condition holds. -/
  | branch (cond : Flags → Bool)
  /-- PC takes the resolved address (JMP). -/
  | jump
  /-- Two pushes, then PC takes the resolved address (JSR). -/
  | call
  /-- Registers and flags only. -/
  | inner (op : State → State)
  /-- One push. -/
  | push (val : State → Byte)
  /-- One pull, then an operation on the byte. -/
  | pull (op : Byte → State → State)
  /-- Two pulls (RTS). -/
  | callerReturn
  /-- The entry of BRK. -/
  | softEntry
  /-- Three pulls (RTI). -/
  | handlerReturn

/-- The action of every operation. -/
def Action.of : Mnemonic → Action
  | .LDA => .read ldaOp
  | .LDX => .read ldxOp
  | .LDY => .read ldyOp
  | .STA => .store (·.a)
  | .STX => .store (·.x)
  | .STY => .store (·.y)
  | .TAX => .inner taxOp
  | .TAY => .inner tayOp
  | .TXA => .inner txaOp
  | .TYA => .inner tyaOp
  | .TSX => .inner tsxOp
  | .TXS => .inner txsOp
  | .ADC => .read adcOp
  | .SBC => .read sbcOp
  | .AND => .read andOp
  | .ORA => .read oraOp
  | .EOR => .read eorOp
  | .CMP => .read cmpOp
  | .CPX => .read cpxOp
  | .CPY => .read cpyOp
  | .BIT => .read bitOp
  | .INC => .modify increment
  | .DEC => .modify decrement
  | .INX => .inner inxOp
  | .INY => .inner inyOp
  | .DEX => .inner dexOp
  | .DEY => .inner deyOp
  | .ASL => .modify shiftLeft
  | .LSR => .modify shiftRight
  | .ROL => .modify rotateLeft
  | .ROR => .modify rotateRight
  | .CLC => .inner clcOp
  | .SEC => .inner secOp
  | .CLI => .inner cliOp
  | .SEI => .inner seiOp
  | .CLV => .inner clvOp
  | .CLD => .inner cldOp
  | .SED => .inner sedOp
  | .NOP => .inner nopOp
  | .BPL => .branch condBpl
  | .BMI => .branch condBmi
  | .BVC => .branch condBvc
  | .BVS => .branch condBvs
  | .BCC => .branch condBcc
  | .BCS => .branch condBcs
  | .BNE => .branch condBne
  | .BEQ => .branch condBeq
  | .JMP => .jump
  | .JSR => .call
  | .RTS => .callerReturn
  | .PHA => .push (·.a)
  | .PHP => .push (·.p.status true)
  | .PLA => .pull plaTake
  | .PLP => .pull plpTake
  | .BRK => .softEntry
  | .RTI => .handlerReturn

/-- Whether an operation is a conditional branch whose condition holds (R125, R210). -/
def Action.taken (act : Action) (f : Flags) : Bool :=
  match act with
  | .branch cond => cond f
  | .read _ => false
  | .store _ => false
  | .modify _ => false
  | .jump => false
  | .call => false
  | .inner _ => false
  | .push _ => false
  | .pull _ => false
  | .callerReturn => false
  | .softEntry => false
  | .handlerReturn => false

end Sys2Proof.Machine
end

