-- ==== Sys2Proof/Machine/Access.lean ====
section
/-! DEFINITION. The exact sequence of memory accesses of a step and of Reset (R56, R59, R64, R100, R281): every single-byte read and
write in the order the rules write them, with the byte each moves, and no other access, where the backing is the RAM that State
holds. The step itself (Machine/Step.lean) is written without this file; a statement says that the two agree. What the CORE does
with a backing of any kind stands in Machine/Bus.lean. -/

namespace Sys2Proof.Machine

/-- One call of the memory interface (R50-R52). -/
inductive Access where
  /-- MemRead(addr), which yielded `val`. -/
  | read (addr : Word) (val : Byte)
  /-- MemWrite(addr, val). -/
  | write (addr : Word) (val : Byte)
  deriving DecidableEq, Repr

/-- A read of `a` in the memory `s` holds. -/
def readAt (s : State) (a : Word) : Access := .read a (s.read a)

/-- The opcode fetch and then the operand bytes, low address first (R84, R85, R122). The operand byte of an Immediate instruction is
its data read (R87), which stands in the same place. -/
def fetchAccesses (m : Mode) (s : State) : List Access :=
  match m.length with
  | 2 => [readAt s s.pc, readAt s (s.pc + 1)]
  | 3 => [readAt s s.pc, readAt s (s.pc + 1), readAt s (s.pc + 2)]
  | _ => [readAt s s.pc]

/-- The two reads of a pointer that lies in page zero (R55). -/
def zeroPagePointer (p : Byte) (s : State) : List Access := [readAt s (zext16 p), readAt s (zext16 (p + 1))]

/-- The pointer reads of the resolver (R94-R96). -/
def pointerAccesses (r : MemRef) (s : State) : List Access :=
  match r with
  | .indirect w => [readAt s w, readAt s (pointerHighAddr w s)]
  | .indirectX b => zeroPagePointer (b + s.x) s
  | .indirectY b => zeroPagePointer b s
  | .zeroPage _ => []
  | .zeroPageX _ => []
  | .zeroPageY _ => []
  | .absolute _ => []
  | .absoluteX _ => []
  | .absoluteY _ => []

/-- The writes of pushing a list of bytes in order (R230). -/
def pushAccesses : List Byte → State → List Access
  | [], _ => []
  | v :: vs, s => .write s.stackAddr v :: pushAccesses vs (s.push v)

/-- The reads of pulling `n` bytes (R231). -/
def pullAccesses : Nat → State → List Access
  | 0, _ => []
  | n + 1, s => readAt s.popped s.popped.stackAddr :: pullAccesses n s.popped

/-- Entering a handler: three writes, then the vector, low byte first (R237, R256). -/
def entryAccesses (brk : Bool) (ret vec : Word) (s : State) : List Access :=
  let t := s.pushFrame brk ret
  pushAccesses [hi ret, lo ret, s.p.status brk] s ++ [readAt t vec, readAt t (vec + 1)]

/-- The accesses of an action at an effective address: one write for a store, a read and a write for a read-modify-write, two
pushes for JSR, none for a jump or a branch, one read for a read (R56, R100). An action that takes no address makes none here. -/
def memoryAccesses (act : Action) (a : Word) (s : State) : List Access :=
  match act with
  | .read _ => [readAt s a]
  | .store val => [.write a (val s)]
  | .modify f => [readAt s a, .write a (f (s.read a) s.p).1]
  | .call => pushAccesses [hi (s.pc + 2), lo (s.pc + 2)] s
  | .branch _ => []
  | .jump => []
  | .inner _ => []
  | .push _ => []
  | .pull _ => []
  | .callerReturn => []
  | .softEntry => []
  | .handlerReturn => []

/-- The stack and vector accesses of an action in Implied mode (R221, R233-R238). -/
def impliedAccesses (act : Action) (s : State) : List Access :=
  match act with
  | .push val => pushAccesses [val s] s
  | .pull _ => pullAccesses 1 s
  | .callerReturn => pullAccesses 2 s
  | .handlerReturn => pullAccesses 3 s
  | .softEntry => entryAccesses true (s.pc + s.cfg.brkReturnOffset.toWord) irqVector s
  | .read _ => []
  | .store _ => []
  | .modify _ => []
  | .branch _ => []
  | .jump => []
  | .call => []
  | .inner _ => []

/-- The accesses of executing an instruction: opcode and operand bytes, then pointers, then data (R100, R121). -/
def instrAccesses (i : Instr) (s : State) : List Access :=
  fetchAccesses i.operand.mode s ++
    match i.operand with
    | .memory r => pointerAccesses r s ++ memoryAccesses (Action.of i.mnemonic) (r.ea s) s
    | .implied => impliedAccesses (Action.of i.mnemonic) s
    | .accumulator => []
    | .immediate _ => []
    | .relative _ => []

/-- The accesses of a step (R120): none of a faulted core (R126), the entry's of a serviced interrupt, only the opcode fetch where
the opcode is unmapped (R104, R123). -/
def stepAccesses (s : State) : List Access :=
  match s.fault with
  | some _ => []
  | none =>
    match interruptCheck s with
    | .service vec t => entryAccesses false t.pc vec t
    | .proceed t =>
      match fetchInstr t with
      | some i => instrAccesses i t
      | none => [readAt t t.pc]

/-- The accesses of Reset: the two bytes of its vector, low byte first, and no other (R281; D18, D31). -/
def resetAccesses (s : State) : List Access := [readAt s resetVector, readAt s (resetVector + 1)]

/-- A sequence of accesses performed on a memory, one at a time; none where a read does not yield the byte the memory holds then
(R64). -/
def replay : List Access → Memory → Option Memory
  | [], m => some m
  | .read a v :: l, m => if m.read a = v then replay l m else none
  | .write a v :: l, m => replay l (m.write a v)

end Sys2Proof.Machine
end

