-- ==== Sys2Proof/Machine/Cycles.lean ====
section
/-! DEFINITION. The cycle cost of a step (R127, R257, R297). The CORE returns it and keeps no count of it (R34), so it is computed
beside the step and is no field of State (log entry 7). -/

namespace Sys2Proof.Machine

/-- Whether executing an instruction takes a conditional branch whose condition holds (R125, R210). -/
def branchTaken (i : Instr) (s : State) : Bool := (Action.of i.mnemonic).taken s.p

/-- Extra(entry, crossed, taken): a penalised read pays 1 for a crossing; a taken branch pays 1, and 1 more for a crossing
(R127, C1). -/
def extraCycles (pen : Penalty) (crossed taken : Bool) : Nat :=
  match pen with
  | .yes => if crossed then 1 else 0
  | .branch => if taken then 1 + (if crossed then 1 else 0) else 0
  | .no => 0

/-- What an instruction pays beyond its base cycles, from the state at its step boundary (R127). -/
def instrExtra (i : Instr) (s : State) : Nat :=
  match opcodeEntry i.opcode with
  | some e => extraCycles e.penalty (resolve i.operand s).2 (branchTaken i s)
  | none => 0

/-- The base cycle count of an instruction's entry (R101, R127). Every instruction has an entry. -/
def baseCycles (i : Instr) : Nat :=
  match opcodeEntry i.opcode with
  | some e => e.baseCycles
  | none => 0

/-- The cost of executing an instruction: base_cycles + Extra (R120, R127). -/
def instrCycles (i : Instr) (s : State) : Nat := baseCycles i + instrExtra i s

/-- The fixed cost of servicing an interrupt (R257). -/
def interruptCycles : Nat := 7

/-- The cycles a step contributes (R120): those of its instruction, 7 for an interrupt, none where it returns a fault (R129). -/
def stepCost (s : State) : Nat :=
  match s.fault with
  | some _ => 0
  | none =>
    match interruptCheck s with
    | .service _ _ => interruptCycles
    | .proceed t =>
      match fetchInstr t with
      | some i => instrCycles i t
      | none => 0

end Sys2Proof.Machine
end

