-- ==== Sys2Proof/Machine/HostOps.lean ====
section
/-! DEFINITION. What the host may do between two steps (R37, R255, D8): Reset, requesting and withdrawing interrupts, writing memory,
loading a program. Nothing else writes the state from outside. -/

namespace Sys2Proof.Machine

/-- The state at construction, before the first Reset: all zero, memory as given (R35, R284). -/
def constructed (m : Memory) (cfg : Config) : State where
  a := 0
  x := 0
  y := 0
  sp := 0
  pc := 0
  p := { c := false, z := false, i := false, d := false, v := false, n := false }
  irqPending := false
  nmiPending := false
  fault := none
  mem := m
  cfg := cfg

/-- What Reset() does with the two bytes of its vector: registers and flags as R280 says, requests and fault cleared, PC the
address the bytes form (R280, R281). -/
def State.fromReset (s : State) (l h : Byte) : State :=
  { s with
    a := 0, x := 0, y := 0, sp := s.cfg.resetS,
    p := { c := false, z := false, i := s.cfg.resetI, d := false, v := false, n := false },
    irqPending := false, nmiPending := false, fault := none,
    pc := w16 h l }

/-- Reset() (R280-R283): PC from the reset vector; memory is not written and nothing is pushed. Its two accesses are
`resetAccesses` of Machine/Access.lean. -/
def hostReset (s : State) : State := s.fromReset (s.read resetVector) (s.read (resetVector + 1))

/-- The host requests IRQ service, or withdraws a request not yet serviced (R255). -/
def hostSetIrq (b : Bool) (s : State) : State := { s with irqPending := b }

/-- The host requests NMI service, or withdraws a request not yet serviced (R255). -/
def hostSetNmi (b : Bool) (s : State) : State := { s with nmiPending := b }

/-- The host writes one byte of the memory backing (R37). -/
def hostWrite (a : Word) (v : Byte) (s : State) : State := s.write a v

/-- The host copies bytes into memory verbatim from an offset on (R290). -/
def hostCopy : List Byte → Word → State → State
  | [], _, s => s
  | v :: vs, a, s => hostCopy vs (a + 1) (hostWrite a v s)

/-- Program loading: image bytes, then the reset vector, then Reset (R290). -/
def hostLoad (image : List Byte) (offset entry : Word) (s : State) : State :=
  hostReset (hostWrite (resetVector + 1) (hi entry) (hostWrite resetVector (lo entry) (hostCopy image offset s)))

end Sys2Proof.Machine
end

