-- ==== Sys2Proof/Machine/Bus.lean ====
section
/-! DEFINITION. The CORE at its memory interface (R50-R52, R56, R59, U13): a step and a Reset as programs that make one access
after another and go on with the byte that the backing answers, whatever the backing is. Nothing here looks at the memory in State:
a backing may have side effects, and two reads of one address may be answered differently. Machine/Step.lean is this program with
the RAM of State as its backing, which a statement says. -/

namespace Sys2Proof.Machine

/-- A program on the memory interface that ends in a value. -/
inductive Bus (α : Type) where
  /-- No further access. -/
  | done (x : α)
  /-- MemRead(addr), going on with the byte answered (R51). -/
  | read (addr : Word) (k : Byte → Bus α)
  /-- MemWrite(addr, val), which answers nothing (R52). -/
  | write (addr : Word) (val : Byte) (k : Bus α)

/-- A memory backing with states of type `β`: it answers a read with a byte and takes a write, and either may change it
(R51-R53, R59). -/
structure Backing (β : Type) where
  /-- The byte answered to read(addr), and the backing afterwards. -/
  answer : β → Word → Byte × β
  /-- The backing after write(addr, val). -/
  accept : β → Word → Byte → β

/-- A program run against a backing: the accesses the backing sees, in order, with the bytes they move; the backing afterwards; and
the value (R56, R59, R64). -/
def Bus.serve {α β : Type} (B : Backing β) : Bus α → β → List Access × β × α
  | .done x, b => ([], b, x)
  | .read a k, b =>
    let r := B.answer b a
    let t := (k r.1).serve B r.2
    (.read a r.1 :: t.1, t.2)
  | .write a v k, b =>
    let t := k.serve B (B.accept b a v)
    (.write a v :: t.1, t.2)

/-- The value of a program changed by a function. -/
def Bus.map {α β : Type} (f : α → β) : Bus α → Bus β
  | .done x => .done (f x)
  | .read a k => .read a (fun v => (k v).map f)
  | .write a v k => .write a v (k.map f)

/-- The plain RAM backing (R64; log entry 1): a read changes nothing. -/
def ram : Backing Memory where
  answer m a := (m.read a, m)
  accept m a v := m.write a v

/-- Fetch8(): the byte at PC, and PC advanced (R84, R122). -/
def busFetch {α : Type} (s : State) (k : Byte → State → Bus α) : Bus α := .read s.pc (fun v => k v (s.advance 1))

/-- Fetch16(): two operand bytes, low byte first (R54, R85). -/
def busFetch16 {α : Type} (s : State) (k : Word → State → Bus α) : Bus α :=
  busFetch s (fun l t => busFetch t (fun h u => k (w16 h l) u))

/-- Two reads, low byte first (R55). -/
def busPointer {α : Type} (low high : Word) (k : Word → Bus α) : Bus α :=
  .read low (fun l => .read high (fun h => k (w16 h l)))

/-- Push(v) (R230). -/
def busPush {α : Type} (v : Byte) (s : State) (k : State → Bus α) : Bus α := .write s.stackAddr v (k s.pushed)

/-- Pull() (R231). -/
def busPull {α : Type} (s : State) (k : Byte → State → Bus α) : Bus α :=
  .read s.popped.stackAddr (fun v => k v s.popped)

/-- Entering a handler: three pushes, then the vector, low byte first (R237, R256; D31). -/
def busEntry {α : Type} (brk : Bool) (ret vec : Word) (s : State) (k : State → Bus α) : Bus α :=
  busPush (hi ret) s (fun t =>
    busPush (lo ret) t (fun u =>
      busPush (s.p.status brk) u (fun w =>
        .read vec (fun l => .read (vec + 1) (fun h => k (w.toHandler l h))))))

/-- resolve(mode), from PC past the opcode: the effective address where the mode has one, page_crossed, and the state with PC past
the operand bytes (R84-R99). -/
def busResolve {α : Type} (m : Mode) (s : State) (k : Option Word → Bool → State → Bus α) : Bus α :=
  match m with
  | .implied => k none false s
  | .accumulator => k none false s
  | .immediate => k (some s.pc) false (s.advance 1)
  | .zeroPage => busFetch s (fun b t => k (some (zext16 b)) false t)
  | .zeroPageX => busFetch s (fun b t => k (some (zext16 (b + t.x))) false t)
  | .zeroPageY => busFetch s (fun b t => k (some (zext16 (b + t.y))) false t)
  | .absolute => busFetch16 s (fun w t => k (some w) false t)
  | .absoluteX => busFetch16 s (fun w t => k (some (w + zext16 t.x)) (hi (w + zext16 t.x) != hi w) t)
  | .absoluteY => busFetch16 s (fun w t => k (some (w + zext16 t.y)) (hi (w + zext16 t.y) != hi w) t)
  | .indirect => busFetch16 s (fun w t => busPointer w (pointerHighAddr w t) (fun e => k (some e) false t))
  | .indirectX =>
    busFetch s (fun b t => busPointer (zext16 (b + t.x)) (zext16 (b + t.x + 1)) (fun e => k (some e) false t))
  | .indirectY =>
    busFetch s (fun b t => busPointer (zext16 b) (zext16 (b + 1))
      (fun e => k (some (e + zext16 t.y)) (hi (e + zext16 t.y) != hi e) t))
  | .relative => busFetch s (fun d t => k (some (t.pc + sext16 d)) (hi (t.pc + sext16 d) != hi t.pc) t)

/-- Executing an action at what the resolver gave, with PC past the instruction (R121, R140-R238). The arms that go on at once are
pairings that no entry of the table has. -/
def busExecute {α : Type} (act : Action) (ea : Option Word) (s : State) (k : State → Bus α) : Bus α :=
  match act, ea with
  | .read op, some a => .read a (fun v => k (op v s))
  | .store val, some a => .write a (val s) (k s)
  | .modify f, some a => .read a (fun v => .write a (f v s.p).1 (k { s with p := (f v s.p).2 }))
  | .modify f, none => k { s with a := (f s.a s.p).1, p := (f s.a s.p).2 }
  | .branch cond, some a => k { s with pc := if cond s.p then a else s.pc }
  | .jump, some a => k { s with pc := a }
  | .call, some a => busPush (hi (s.pc - 1)) s (fun t => busPush (lo (s.pc - 1)) t (fun u => k { u with pc := a }))
  | .inner op, none => k (op s)
  | .push val, none => busPush (val s) s k
  | .pull op, none => busPull s (fun v t => k (op v t))
  | .callerReturn, none => busPull s (fun l t => busPull t (fun h u => k (u.toCaller l h)))
  | .softEntry, none => busEntry true (s.pc - 1 + s.cfg.brkReturnOffset.toWord) irqVector s k
  | .handlerReturn, none =>
    busPull s (fun p t => busPull t (fun l u => busPull u (fun h w => k (w.fromHandler p l h))))
  | .read _, none => k s
  | .store _, none => k s
  | .branch _, none => k s
  | .jump, none => k s
  | .call, none => k s
  | .inner _, some _ => k s
  | .push _, some _ => k s
  | .pull _, some _ => k s
  | .callerReturn, some _ => k s
  | .softEntry, some _ => k s
  | .handlerReturn, some _ => k s

/-- Fetching, decoding, resolving and executing one instruction, with its cycle cost; or the decode error of an unmapped opcode, with
no access after the opcode's (R120-R125, R127). -/
def busInstruction (s : State) : Bus (State × Host.Outcome Nat Fault Refusal) :=
  busFetch s (fun b t =>
    match opcodeEntry b with
    | none => .done ({ t with fault := some { opcode := b, addr := s.pc } }, .fault (.decodeError b s.pc))
    | some e =>
      busResolve e.mode t (fun ea crossed u =>
        busExecute (Action.of e.op) ea u (fun w =>
          .done (w, .next (e.baseCycles + extraCycles e.penalty crossed ((Action.of e.op).taken u.p))))))

/-- Step() at the interface: the state after it but for its memory, and what it returns (R120). -/
def busStep (s : State) : Bus (State × Host.Outcome Nat Fault Refusal) :=
  match s.fault with
  | some e => .done (s, .fault (.decodeError e.opcode e.addr))
  | none =>
    match interruptCheck s with
    | .service vec t => busEntry false t.pc vec t (fun u => .done (u, .next interruptCycles))
    | .proceed t => busInstruction t

/-- Reset() at the interface: exactly two reads (R281). -/
def busReset (s : State) : Bus State :=
  .read resetVector (fun l => .read (resetVector + 1) (fun h => .done (s.fromReset l h)))

end Sys2Proof.Machine
end

