-- ==== Sys2Proof/Machine/Run.lean ====
section
/-! DEFINITION. What a step returns and leaves (R120, R123), the run(budget) loop (R128, R129) and the end of a program's run
(R131). -/

namespace Sys2Proof.Machine

/-- What Step() returns: its cycle cost, written .next, or the fault (R120). -/
def stepReturn (s : State) : Host.Outcome Nat Fault Refusal :=
  match step s with
  | .next _ => .next (stepCost s)
  | .fault f => .fault f
  | .refused r => .refused r

/-- The state a faulting step leaves: a faulted core is unchanged (R126); a fetched unmapped opcode is latched, after the interrupt
check has had its effect (R120, R123, R252). -/
def faultedState (s : State) : State :=
  match s.fault with
  | some _ => s
  | none =>
    match interruptCheck s with
    | .service _ t => t
    | .proceed t => latchDecodeError t

/-- The state after a step, whatever the step returns (R120). -/
def afterStep (s : State) : State :=
  match step s with
  | .next t => t
  | .fault _ => faultedState s
  | .refused _ => s

/-- What run returns, with the state it leaves: the total of cycles, and the fault if a step returned one (R128, R129). -/
structure RunResult where
  /-- The state after the last step. -/
  state : State
  /-- The cycles of the steps completed. -/
  total : Nat
  /-- How it ended: .next () is Ok. -/
  outcome : Host.Outcome Unit Fault Refusal
  deriving Repr

/-- The loop of R128, on fuel; every completed step costs at least one cycle, so as much fuel as the budget is enough. -/
def runLoop : Nat → Int → Nat → State → RunResult
  | 0, _, total, s => { state := s, total := total, outcome := .next () }
  | fuel + 1, remaining, total, s =>
    if 0 < remaining then
      match stepReturn s with
      | .next c => runLoop fuel (remaining - c) (total + c) (afterStep s)
      | .fault f => { state := afterStep s, total := total, outcome := .fault f }
      | .refused r => { state := afterStep s, total := total, outcome := .refused r }
    else { state := s, total := total, outcome := .next () }

/-- run(budget): steps are repeated while the remaining budget is positive (R128). -/
def run (budget : Int) (s : State) : RunResult := runLoop budget.toNat budget 0 s

/-- How a program's run ended (R131). -/
inductive ProgramEnd where
  /-- PC equals the program's end address at a step boundary. -/
  | reached (s : State)
  /-- A step returned a fault. -/
  | faulted (s : State) (f : Fault)
  /-- Neither, within the steps allowed. -/
  | running (s : State)
  deriving DecidableEq, Repr

/-- The end of a run of a program within `n` steps: the first boundary at which PC is the end address, or the first fault (R131). -/
def runProgram : Nat → Word → State → ProgramEnd
  | 0, stop, s => if s.pc = stop then .reached s else .running s
  | n + 1, stop, s =>
    if s.pc = stop then .reached s
    else
      match step s with
      | .next t => runProgram n stop t
      | .fault f => .faulted (afterStep s) f
      | .refused _ => .running s

end Sys2Proof.Machine
end

