-- ==== Sys2Proof/Safety.lean ====
section
/-! DEFINITION. What a sound state and a safe run are, in the terms the statements use. -/

namespace Sys2Proof.Machine

/-- The invariant of a state whose step went on: memory in canonical form, and no decode error latched. -/
abbrev State.Sound (s : State) : Prop := s.mem.wf ∧ s.fault = none

/-- `n` steps from `s` end in a next state: no decode error stops them (R126, R250). -/
def runsSafely (n : Nat) (s : State) : Bool :=
  match n with
  | 0 => true
  | n + 1 =>
    match step s with
    | .next t => runsSafely n t
    | .fault _ => false
    | .refused _ => false

end Sys2Proof.Machine
end

