-- ==== Sys2Proof/Certificates/Slice0/Obligations.lean ====
section
/-! DEFINITION. The statements, one for each rule or group of rules they formalise. -/

open Sys2Proof Sys2Proof.Machine

/-- The decoder inverts the encoder on all 151 constructors, with every operand value (30_encoding.md sections 1 and
  3). The opcode bytes themselves are the general-knowledge assignment of D13. -/
def Obligations.DecodingAnEncodingGivesItBack : Prop :=
  ∀ (i : Instr) (rest : List Byte), decode (encode i ++ rest) = .instr i rest

/-- The encoder inverts the decoder, so that every mapped word has one meaning (30_encoding.md sections 1 and 3;
  D13). -/
def Obligations.EncodingADecodingGivesTheBytesBack : Prop :=
  ∀ (bs : List Byte) (i : Instr) (rest : List Byte), decode bs = .instr i rest → encode i ++ rest = bs

/-- A sanity check of six words of the grid (30_encoding.md section 3; D13). -/
def Obligations.WordsOfTheGridDecode : Prop :=
  decode [0xA9, 0x80] = .instr (.ldaImmediate 0x80) [] ∧
    decode [0x6C, 0x00, 0x03] = .instr (.jmpIndirect 0x0300) [] ∧
    decode [0x91, 0x20] = .instr (.staIndirectY 0x20) [] ∧
    decode [0xD0, 0xFB] = .instr (.bne 0xFB) [] ∧
    decode [0x6A] = .instr .rorAccumulator [] ∧ decode [0x00] = .instr .brk []

/-- The 105 bytes with no entry (30_encoding.md section 3, rule R104; the byte values are the choice of D13). -/
def Obligations.UnmappedBytesAreRejectedByName : Prop :=
  ∀ (b : Byte) (rest : List Byte), decode (b :: rest) = .unmapped b ↔
    b ∈ ([0x02, 0x03, 0x04, 0x07, 0x0B, 0x0C, 0x0F, 0x12, 0x13, 0x14, 0x17, 0x1A, 0x1B, 0x1C, 0x1F,
      0x22, 0x23, 0x27, 0x2B, 0x2F, 0x32, 0x33, 0x34, 0x37, 0x3A, 0x3B, 0x3C, 0x3F, 0x42, 0x43,
      0x44, 0x47, 0x4B, 0x4F, 0x52, 0x53, 0x54, 0x57, 0x5A, 0x5B, 0x5C, 0x5F, 0x62, 0x63, 0x64,
      0x67, 0x6B, 0x6F, 0x72, 0x73, 0x74, 0x77, 0x7A, 0x7B, 0x7C, 0x7F, 0x80, 0x82, 0x83, 0x87,
      0x89, 0x8B, 0x8F, 0x92, 0x93, 0x97, 0x9B, 0x9C, 0x9E, 0x9F, 0xA3, 0xA7, 0xAB, 0xAF, 0xB2,
      0xB3, 0xB7, 0xBB, 0xBF, 0xC2, 0xC3, 0xC7, 0xCB, 0xCF, 0xD2, 0xD3, 0xD4, 0xD7, 0xDA, 0xDB,
      0xDC, 0xDF, 0xE2, 0xE3, 0xE7, 0xEB, 0xEF, 0xF2, 0xF3, 0xF4, 0xF7, 0xFA, 0xFB, 0xFC, 0xFF] : List Byte)

/-- The Encoding lines of R140-R238 against the constructors made from the table (D13). -/
def Obligations.FormsAreThoseOfTheInstructions : Prop :=
  ∀ f : Form, f.wf = true ↔ ∃ i : Instr, i.form = f

/-- The first sentence of R83. -/
def Obligations.LengthIsFixedByTheMode : Prop :=
  ∀ i : Instr,
    (i.operand.mode ∈ [Mode.accumulator, .implied] → (encode i).length = 1) ∧
    (i.operand.mode ∈ [Mode.immediate, .zeroPage, .zeroPageX, .zeroPageY, .indirectX, .indirectY, .relative] →
      (encode i).length = 2) ∧
    (i.operand.mode ∈ [Mode.absolute, .absoluteX, .absoluteY, .indirect] → (encode i).length = 3)

/-- The per-mode summary of the base cycle counts (70_reset_and_hazards.md section 4; the counts are the choice of
  D14). -/
def Obligations.BaseCyclesFollowTheModes : Prop :=
  ∀ i : Instr, baseCycles i =
    match i.operand.mode with
    | .immediate => 2
    | .zeroPage => if i.mnemonic ∈ [Mnemonic.ASL, .LSR, .ROL, .ROR, .INC, .DEC] then 5 else 3
    | .zeroPageX => if i.mnemonic ∈ [Mnemonic.ASL, .LSR, .ROL, .ROR, .INC, .DEC] then 6 else 4
    | .zeroPageY => 4
    | .absolute =>
      if i.mnemonic = .JMP then 3
      else if i.mnemonic ∈ [Mnemonic.JSR, .ASL, .LSR, .ROL, .ROR, .INC, .DEC] then 6 else 4
    | .absoluteX =>
      if i.mnemonic = .STA then 5
      else if i.mnemonic ∈ [Mnemonic.ASL, .LSR, .ROL, .ROR, .INC, .DEC] then 7 else 4
    | .absoluteY => if i.mnemonic = .STA then 5 else 4
    | .indirectX => 6
    | .indirectY => if i.mnemonic = .STA then 6 else 5
    | .indirect => 5
    | .accumulator => 2
    | .relative => 2
    | .implied =>
      if i.mnemonic ∈ [Mnemonic.PHA, .PHP] then 3
      else if i.mnemonic ∈ [Mnemonic.PLA, .PLP] then 4
      else if i.mnemonic ∈ [Mnemonic.RTS, .RTI] then 6
      else if i.mnemonic = .BRK then 7 else 2

/-- The Extra of R127 by penalty class; which operations are of which class is the choice of D15, and that the cost
  stands beside the step is log entry 7. -/
def Obligations.PageCrossCostByClass : Prop :=
  ∀ (i : Instr) (s : State), instrCycles i s = baseCycles i + instrExtra i s ∧
    (i.mnemonic ∈ [Mnemonic.ADC, .AND, .CMP, .EOR, .LDA, .ORA, .SBC, .LDX, .LDY] →
      instrExtra i s = if (resolve i.operand s).2 then 1 else 0) ∧
    (∀ d, i.operand = .relative d → instrExtra i s =
      if branchTaken i s then (if hi (branchTarget d s) = hi (s.pc + 2) then 1 else 2) else 0) ∧
    (i.mnemonic ∉ [Mnemonic.ADC, .AND, .CMP, .EOR, .LDA, .ORA, .SBC, .LDX, .LDY] → i.operand.mode ≠ .relative →
      instrExtra i s = 0)

/-- R88, R89, R90. -/
def Obligations.ZeroPageAddressesStayInPageZero : Prop :=
  ∀ (b : Byte) (s : State),
    ((MemRef.zeroPage b).ea s).toNat = b.toNat ∧
    ((MemRef.zeroPageX b).ea s).toNat = (b.toNat + s.x.toNat) % 256 ∧
    ((MemRef.zeroPageY b).ea s).toNat = (b.toNat + s.y.toNat) % 256 ∧
    (MemRef.zeroPage b).crossed s = false ∧ (MemRef.zeroPageX b).crossed s = false ∧
    (MemRef.zeroPageY b).crossed s = false

/-- R91, and R92 and R93 with the wrap mod 65536 that D11 chooses. -/
def Obligations.AbsoluteAddressesAndTheirCrossings : Prop :=
  ∀ (w : Word) (s : State),
    (MemRef.absolute w).ea s = w ∧ (MemRef.absolute w).crossed s = false ∧
    ((MemRef.absoluteX w).ea s).toNat = (w.toNat + s.x.toNat) % 65536 ∧
    ((MemRef.absoluteX w).crossed s = true ↔ 256 ≤ w.toNat % 256 + s.x.toNat) ∧
    ((MemRef.absoluteY w).ea s).toNat = (w.toNat + s.y.toNat) % 65536 ∧
    ((MemRef.absoluteY w).crossed s = true ↔ 256 ≤ w.toNat % 256 + s.y.toNat)

/-- R94, for both values of the parameter of D9, with the address after the pointer said in numbers. -/
def Obligations.IndirectTargetsFollowTheWrapParameter : Prop :=
  ∀ (w : Word) (s : State), ∃ h : Word,
    (MemRef.indirect w).ea s = w16 (s.read h) (s.read w) ∧ (MemRef.indirect w).crossed s = false ∧
    (s.cfg.jmpIndPageWrap = false → h.toNat = (w.toNat + 1) % 65536) ∧
    (s.cfg.jmpIndPageWrap = true → h.toNat / 256 = w.toNat / 256 ∧ h.toNat % 256 = (w.toNat % 256 + 1) % 256)

/-- R95 and R96, with the page-zero wrap of the pointer that D10 chooses and the wrap of the sum that D11 chooses. -/
def Obligations.ZeroPagePointerAddresses : Prop :=
  ∀ (b : Byte) (s : State),
    let at16 := fun p : Nat => (s.read (BitVec.ofNat 16 (p % 256))).toNat + 256 * (s.read (BitVec.ofNat 16 ((p + 1) % 256))).toNat
    ((MemRef.indirectX b).ea s).toNat = at16 (b.toNat + s.x.toNat) ∧ (MemRef.indirectX b).crossed s = false ∧
    ((MemRef.indirectY b).ea s).toNat = (at16 b.toNat + s.y.toNat) % 65536 ∧
    ((MemRef.indirectY b).crossed s = true ↔ 256 ≤ at16 b.toNat % 256 + s.y.toNat)

/-- R99, the displacement read as a signed integer; the wrap mod 65536 is the choice of D11 (log entry 10). -/
def Obligations.RelativeTargetsAreSigned : Prop :=
  ∀ (d : Byte) (s : State), ∃ target : Word, resolve (.relative d) s = (some target, decide (hi target ≠ hi (s.pc + 2))) ∧
    (target.toNat : Int) =
      ((s.pc.toNat : Int) + 2 + (if d.toNat < 128 then (d.toNat : Int) else (d.toNat : Int) - 256)) % 65536

/-- R87: the decoded value is what MemRead(ea) yields, so that carrying it in the instruction loses nothing (log
  entry 8). -/
def Obligations.ImmediateOperandsAreInTheInstructionStream : Prop :=
  ∀ (s : State) (i : Instr) (v : Byte), fetchInstr s = some i → i.operand = .immediate v →
    resolve i.operand s = (some (s.pc + 1), false) ∧ v = s.read (s.pc + 1)

/-- The whole-resolver sentence of R86, and the last case of R84. -/
def Obligations.OnlyIndexedModesCross : Prop :=
  ∀ (o : Operand) (s : State),
    ((resolve o s).2 = true → o.mode ∈ [Mode.absoluteX, .absoluteY, .indirectY, .relative]) ∧
    ((resolve o s).1 = none ↔ o.mode ∈ [Mode.implied, .accumulator])

/-- R120, with the interrupt check of R252 and R254 before the instruction: that a masked request stays, or is
  dropped under IRQ_MASKED_DISCARD, is the choice of D7 (log entry 10). That the three bytes are decoded together and
  that exec moves PC past the instruction itself is log entry 8. -/
def Obligations.AStepExecutesTheFetchedInstruction : Prop :=
  ∀ (s : State) (i : Instr) (rest : List Byte), s.fault = none → s.nmiPending = false →
    (s.irqPending = true → s.p.i = true) →
    decode [s.read s.pc, s.read (s.pc + 1), s.read (s.pc + 2)] = .instr i rest →
    step s = exec i { s with irqPending := s.irqPending && !s.cfg.irqMaskedDiscard }

/-- R250 and R123; the state after the error is the choice of D19, and that it is held beside step is log entry 6.
  That a masked request stays, or is dropped under IRQ_MASKED_DISCARD, is R252 and R254 with the choice of D7; that a
  faulting step contributes no cycles is R129 with the choice of D20 (log entry 10), and that its cost stands beside
  step is log entry 7. -/
def Obligations.UnmappedOpcodesFault : Prop :=
  ∀ s : State, s.fault = none → s.nmiPending = false →
    (s.irqPending = true → s.p.i = true) → opcodeEntry (s.read s.pc) = none →
    step s = .fault (.decodeError (s.read s.pc) s.pc) ∧
    afterStep s = { s with
      irqPending := s.irqPending && !s.cfg.irqMaskedDiscard
      fault := some { opcode := s.read s.pc, addr := s.pc }
      pc := s.pc + 1 } ∧
    stepAccesses s = [.read s.pc (s.read s.pc)] ∧ stepCost s = 0

/-- R126 and the first clause of R283 (D19); that the state after a fault is held beside step is log entry 6. -/
def Obligations.FaultedCoresDoNothingUntilReset : Prop :=
  ∀ (s : State) (e : DecodeError) (n : Nat), s.fault = some e →
    (afterStep^[n]) s = s ∧ step ((afterStep^[n]) s) = .fault (.decodeError e.opcode e.addr) ∧
    stepAccesses ((afterStep^[n]) s) = [] ∧ (hostReset ((afterStep^[n]) s)).fault = none

/-- R252-R254 for both values of the parameter of D7, and R257. The state after a fault and the cost of a step stand
  beside step (log entries 6 and 7). -/
def Obligations.TheInterruptCheckDecidesEachStep : Prop :=
  ∀ s : State, s.fault = none →
    (s.nmiPending = true → step s = .next (interruptEntry 0xFFFA { s with nmiPending := false }) ∧ stepCost s = 7) ∧
    (s.nmiPending = false → s.irqPending = true → s.p.i = false →
      step s = .next (interruptEntry 0xFFFE { s with irqPending := false }) ∧ stepCost s = 7) ∧
    (s.nmiPending = false → s.irqPending = true → s.p.i = true → s.cfg.irqMaskedDiscard = true →
      step s = step { s with irqPending := false }) ∧
    (s.nmiPending = false → s.irqPending = true → s.p.i = true → s.cfg.irqMaskedDiscard = false →
      (∀ i : Instr, fetchInstr s = some i → step s = exec i s) ∧ (afterStep s).irqPending = true)

/-- R256; that the pushed PC is unadjusted and that D stays are the choices of D5 and D6. -/
def Obligations.InterruptEntrySavesPcAndStatus : Prop :=
  ∀ (vec : Word) (s : State), ∃ t : State, interruptEntry vec s = t ∧
      t.read (w16 s.cfg.stackPage s.sp) = hi s.pc ∧
      t.read (w16 s.cfg.stackPage (s.sp - 1)) = lo s.pc ∧
      t.read (w16 s.cfg.stackPage (s.sp - 2)) = s.p.status false ∧
      (∀ a : Word, a ≠ w16 s.cfg.stackPage s.sp → a ≠ w16 s.cfg.stackPage (s.sp - 1) →
        a ≠ w16 s.cfg.stackPage (s.sp - 2) → t.read a = s.read a) ∧
      t = { s with
        sp := s.sp - 3
        p := { s.p with i := true }
        pc := w16 (t.read (vec + 1)) (t.read vec)
        mem := t.mem }

/-- The first sentence of R294, for CLI; that there is no delay is the choice of D21. -/
def Obligations.CliLetsAPendingIrqInAtOnce : Prop :=
  ∀ s : State, s.fault = none → s.nmiPending = false → s.irqPending = true →
    ∃ t : State, exec .cli s = .next t ∧ step t = .next (interruptEntry 0xFFFE { t with irqPending := false }) ∧
      t.pc = s.pc + 1

/-- R140-R142; that loads set Z and N is the choice of D16. -/
def Obligations.LoadsTakeTheOperandAndSetZN : Prop :=
  ∀ (i : Instr) (s : State),
    (i.mnemonic = .LDA → ∃ v, operandByte i.operand s = some v ∧ exec i s = .next
      { s with a := v, pc := s.pc + BitVec.ofNat 16 i.length, p := { s.p with z := decide (v = 0), n := v.getLsbD 7 } }) ∧
    (i.mnemonic = .LDX → ∃ v, operandByte i.operand s = some v ∧ exec i s = .next
      { s with x := v, pc := s.pc + BitVec.ofNat 16 i.length, p := { s.p with z := decide (v = 0), n := v.getLsbD 7 } }) ∧
    (i.mnemonic = .LDY → ∃ v, operandByte i.operand s = some v ∧ exec i s = .next
      { s with y := v, pc := s.pc + BitVec.ofNat 16 i.length, p := { s.p with z := decide (v = 0), n := v.getLsbD 7 } })

/-- R143-R145, with the access order of R56, R84 and R100; that stores write no flag is the choice of D16, that there
  is no dummy read that of D12, and that no extra cycle is paid that of D15 (log entry 10). -/
def Obligations.StoresWriteTheRegisterAndNoFlag : Prop :=
  ∀ (i : Instr) (s : State) (v : Byte),
    (i.mnemonic = .STA ∧ v = s.a ∨ i.mnemonic = .STX ∧ v = s.x ∨ i.mnemonic = .STY ∧ v = s.y) →
    ∃ (r : MemRef) (ea : Word) (t : State), i.operand = .memory r ∧ (resolve i.operand s).1 = some ea ∧
      exec i s = .next t ∧ t = { s with pc := s.pc + BitVec.ofNat 16 i.length, mem := t.mem } ∧ t.read ea = v ∧
      (∀ b : Word, b ≠ ea → t.read b = s.read b) ∧
      instrAccesses i s = fetchAccesses i.operand.mode s ++ pointerAccesses r s ++ [.write ea v] ∧
      instrExtra i s = 0

/-- R146-R151. -/
def Obligations.TransfersCopyTheRegister : Prop :=
  ∀ s : State,
    exec .tax s = .next { s with x := s.a, pc := s.pc + 1, p := { s.p with z := decide (s.a = 0), n := s.a.getLsbD 7 } } ∧
    exec .tay s = .next { s with y := s.a, pc := s.pc + 1, p := { s.p with z := decide (s.a = 0), n := s.a.getLsbD 7 } } ∧
    exec .txa s = .next { s with a := s.x, pc := s.pc + 1, p := { s.p with z := decide (s.x = 0), n := s.x.getLsbD 7 } } ∧
    exec .tya s = .next { s with a := s.y, pc := s.pc + 1, p := { s.p with z := decide (s.y = 0), n := s.y.getLsbD 7 } } ∧
    exec .tsx s = .next { s with x := s.sp, pc := s.pc + 1, p := { s.p with z := decide (s.sp = 0), n := s.sp.getLsbD 7 } } ∧
    exec .txs s = .next { s with sp := s.x, pc := s.pc + 1 }

/-- R161 and R163, on exact integers; the overflow formula is the choice of D23 and which operations pay for a
  crossing that of D15 (log entry 10). -/
def Obligations.AdcAddsWithCarryInBinary : Prop :=
  ∀ (i : Instr) (s : State), i.mnemonic = .ADC → ∃ (v : Byte) (t : State), operandByte i.operand s = some v ∧
    exec i s = .next t ∧
    t = { s with a := t.a, pc := s.pc + BitVec.ofNat 16 i.length, p := { s.p with c := t.p.c, v := t.p.v, z := t.p.z, n := t.p.n } } ∧
    t.a.toNat = (s.a.toNat + v.toNat + s.p.c.toNat) % 256 ∧
    (t.p.c = true ↔ 255 < s.a.toNat + v.toNat + s.p.c.toNat) ∧
    (t.p.v = true ↔ (s.a.toInt + v.toInt + s.p.c.toNat < -128 ∨ 127 < s.a.toInt + v.toInt + s.p.c.toNat)) ∧
    (t.p.z = true ↔ t.a.toNat = 0) ∧ (t.p.n = true ↔ 128 ≤ t.a.toNat) ∧
    instrExtra i s = if (resolve i.operand s).2 then 1 else 0

/-- R164, in the equivalent form on exact integers that it derives from R161; the overflow formula is the choice of
  D23 and which operations pay for a crossing that of D15 (log entry 10). -/
def Obligations.SbcSubtractsWithBorrowInBinary : Prop :=
  ∀ (i : Instr) (s : State), i.mnemonic = .SBC → ∃ (v : Byte) (t : State), operandByte i.operand s = some v ∧
    exec i s = .next t ∧
    t = { s with a := t.a, pc := s.pc + BitVec.ofNat 16 i.length, p := { s.p with c := t.p.c, v := t.p.v, z := t.p.z, n := t.p.n } } ∧
    (t.a.toNat : Int) = ((s.a.toNat : Int) - v.toNat - (1 - s.p.c.toNat)) % 256 ∧
    (t.p.c = true ↔ 0 ≤ (s.a.toNat : Int) - v.toNat - (1 - s.p.c.toNat)) ∧
    t.p.v = ((s.a ^^^ v) &&& (s.a ^^^ t.a)).getLsbD 7 ∧
    (t.p.z = true ↔ t.a.toNat = 0) ∧ (t.p.n = true ↔ 128 ≤ t.a.toNat) ∧
    instrExtra i s = if (resolve i.operand s).2 then 1 else 0

/-- R165-R167; which operations pay for a crossing is the choice of D15 (log entry 10). -/
def Obligations.LogicalOperationsOnA : Prop :=
  ∀ (i : Instr) (s : State) (r : Byte → Byte),
    (i.mnemonic = .AND ∧ r = (fun v => s.a &&& v) ∨ i.mnemonic = .ORA ∧ r = (fun v => s.a ||| v) ∨
      i.mnemonic = .EOR ∧ r = (fun v => s.a ^^^ v)) →
    ∃ v, operandByte i.operand s = some v ∧ exec i s = .next
      { s with a := r v, pc := s.pc + BitVec.ofNat 16 i.length, p := { s.p with z := decide (r v = 0), n := (r v).getLsbD 7 } } ∧
      instrExtra i s = if (resolve i.operand s).2 then 1 else 0

/-- R162 and R168-R170; that V is not written is the general knowledge of G10. -/
def Obligations.ComparesWriteCarryZeroNegative : Prop :=
  ∀ (i : Instr) (s : State) (r : Byte),
    (i.mnemonic = .CMP ∧ r = s.a ∨ i.mnemonic = .CPX ∧ r = s.x ∨ i.mnemonic = .CPY ∧ r = s.y) →
    ∃ (m : Byte) (t : State), operandByte i.operand s = some m ∧ exec i s = .next t ∧
      t = { s with pc := s.pc + BitVec.ofNat 16 i.length, p := { s.p with c := t.p.c, z := t.p.z, n := t.p.n } } ∧
      (t.p.c = true ↔ m.toNat ≤ r.toNat) ∧ (t.p.z = true ↔ r = m) ∧
      (t.p.n = true ↔ 128 ≤ (r.toNat + 256 - m.toNat) % 256)

/-- R171. -/
def Obligations.BitTestsTheMemoryOperand : Prop :=
  ∀ (i : Instr) (s : State), i.mnemonic = .BIT → ∃ m, operandByte i.operand s = some m ∧ exec i s = .next
      { s with pc := s.pc + BitVec.ofNat 16 i.length, p := { s.p with z := decide (s.a &&& m = 0), n := m.getLsbD 7, v := m.getLsbD 6 } }

/-- R172 and R173, with the access order of R56; that there is one read and one write and no other is the choice of
  D12, and that no extra cycle is paid that of D15 (log entry 10). -/
def Obligations.IncAndDecModifyMemory : Prop :=
  ∀ (i : Instr) (s : State) (k : Nat), (i.mnemonic = .INC ∧ k = 1 ∨ i.mnemonic = .DEC ∧ k = 255) →
    ∃ (ea : Word) (t : State), (resolve i.operand s).1 = some ea ∧ exec i s = .next t ∧
      t = { s with pc := s.pc + BitVec.ofNat 16 i.length, mem := t.mem, p := { s.p with z := t.p.z, n := t.p.n } } ∧
      (t.read ea).toNat = ((s.read ea).toNat + k) % 256 ∧ (∀ b : Word, b ≠ ea → t.read b = s.read b) ∧
      (t.p.z = true ↔ (t.read ea).toNat = 0) ∧ (t.p.n = true ↔ 128 ≤ (t.read ea).toNat) ∧
      instrAccesses i s = fetchAccesses i.operand.mode s ++ [.read ea (s.read ea), .write ea (t.read ea)] ∧
      instrExtra i s = 0

/-- R174-R177. -/
def Obligations.IndexIncrementsAndDecrements : Prop :=
  ∀ s : State,
    exec .inx s = .next { s with x := s.x + 1, pc := s.pc + 1, p := { s.p with z := decide (s.x = 255), n := (s.x + 1).getLsbD 7 } } ∧
    exec .iny s = .next { s with y := s.y + 1, pc := s.pc + 1, p := { s.p with z := decide (s.y = 255), n := (s.y + 1).getLsbD 7 } } ∧
    exec .dex s = .next { s with x := s.x - 1, pc := s.pc + 1, p := { s.p with z := decide (s.x = 1), n := (s.x - 1).getLsbD 7 } } ∧
    exec .dey s = .next { s with y := s.y - 1, pc := s.pc + 1, p := { s.p with z := decide (s.y = 1), n := (s.y - 1).getLsbD 7 } }

/-- R190-R194, on numbers, with the access order of R56; that there is one read and one write and no other is the
  choice of D12, and that no extra cycle is paid that of D15 (log entry 10). -/
def Obligations.ShiftsAndRotatesOfTheTarget : Prop :=
  ∀ (i : Instr) (s : State) (f : Nat → Nat) (co : Nat → Prop),
    (i.mnemonic = .ASL ∧ f = (fun v => v * 2 % 256) ∧ co = (fun v => 128 ≤ v) ∨
      i.mnemonic = .LSR ∧ f = (fun v => v / 2) ∧ co = (fun v => v % 2 = 1) ∨
      i.mnemonic = .ROL ∧ f = (fun v => (v * 2 + s.p.c.toNat) % 256) ∧ co = (fun v => 128 ≤ v) ∨
      i.mnemonic = .ROR ∧ f = (fun v => v / 2 + 128 * s.p.c.toNat) ∧ co = (fun v => v % 2 = 1)) →
    ∃ (v r : Byte) (t : State), operandByte i.operand s = some v ∧ exec i s = .next t ∧
      r.toNat = f v.toNat ∧ (t.p.c = true ↔ co v.toNat) ∧ (t.p.z = true ↔ r.toNat = 0) ∧
        (t.p.n = true ↔ 128 ≤ r.toNat) ∧
      instrExtra i s = 0 ∧
      (i.operand = .accumulator ∧
          t = { s with a := r, pc := s.pc + BitVec.ofNat 16 i.length, p := { s.p with c := t.p.c, z := t.p.z, n := t.p.n } } ∨
        ∃ ea : Word, (resolve i.operand s).1 = some ea ∧
          t = { s with pc := s.pc + BitVec.ofNat 16 i.length, mem := t.mem, p := { s.p with c := t.p.c, z := t.p.z, n := t.p.n } } ∧
          t.read ea = r ∧ (∀ b : Word, b ≠ ea → t.read b = s.read b) ∧
          instrAccesses i s = fetchAccesses i.operand.mode s ++ [.read ea v, .write ea r])

/-- R200-R206. -/
def Obligations.FlagInstructionsWriteOneFlag : Prop :=
  ∀ s : State,
    exec .clc s = .next { s with pc := s.pc + 1, p := { s.p with c := false } } ∧
    exec .sec s = .next { s with pc := s.pc + 1, p := { s.p with c := true } } ∧
    exec .cli s = .next { s with pc := s.pc + 1, p := { s.p with i := false } } ∧
    exec .sei s = .next { s with pc := s.pc + 1, p := { s.p with i := true } } ∧
    exec .clv s = .next { s with pc := s.pc + 1, p := { s.p with v := false } } ∧
    exec .cld s = .next { s with pc := s.pc + 1, p := { s.p with d := false } } ∧
    exec .sed s = .next { s with pc := s.pc + 1, p := { s.p with d := true } }

/-- R207; that NOP is included is the choice of D16. -/
def Obligations.NopOnlyAdvancesPc : Prop :=
  ∀ s : State, exec .nop s = .next { s with pc := s.pc + 1 }

/-- R210 with R211-R218; which flag and value each branch tests is the general knowledge of G11, and the base of 2
  cycles is the choice of D14; that the cost stands beside the step is log entry 7. -/
def Obligations.BranchesReplacePcWhenTheirFlagHolds : Prop :=
  ∀ (i : Instr) (s : State) (d : Byte) (holds : Bool),
    (i = .bpl d ∧ holds = !s.p.n ∨
      i = .bmi d ∧ holds = s.p.n ∨
      i = .bvc d ∧ holds = !s.p.v ∨
      i = .bvs d ∧ holds = s.p.v ∨
      i = .bcc d ∧ holds = !s.p.c ∨
      i = .bcs d ∧ holds = s.p.c ∨
      i = .bne d ∧ holds = !s.p.z ∨
      i = .beq d ∧ holds = s.p.z) →
    ∃ target : Word, (resolve (.relative d) s).1 = some target ∧
      exec i s = .next { s with pc := if holds then target else s.pc + 2 } ∧
      instrCycles i s = if holds then (if hi target = hi (s.pc + 2) then 3 else 4) else 2

/-- R219, for both values of the parameter of D9. -/
def Obligations.JumpsTakeTheResolvedAddress : Prop :=
  ∀ (w : Word) (s : State),
    exec (.jmpAbsolute w) s = .next { s with pc := w } ∧
    exec (.jmpIndirect w) s = .next { s with
      pc := w16 (s.read (if s.cfg.jmpIndPageWrap then w16 (hi w) (lo w + 1) else w + 1)) (s.read w) }

/-- R220. -/
def Obligations.JsrPushesTheReturnAddress : Prop :=
  ∀ (w : Word) (s : State), ∃ t : State, exec (.jsr w) s = .next t ∧
    t = { s with pc := w, sp := s.sp - 2, mem := t.mem } ∧
    t.read (w16 s.cfg.stackPage s.sp) = hi (s.pc + 2) ∧ t.read (w16 s.cfg.stackPage (s.sp - 1)) = lo (s.pc + 2) ∧
    (∀ a : Word, a ≠ w16 s.cfg.stackPage s.sp → a ≠ w16 s.cfg.stackPage (s.sp - 1) → t.read a = s.read a)

/-- R221. -/
def Obligations.RtsReturnsPastThePulledAddress : Prop :=
  ∀ s : State, exec .rts s = .next { s with
    sp := s.sp + 2
    pc := w16 (s.read (w16 s.cfg.stackPage (s.sp + 2))) (s.read (w16 s.cfg.stackPage (s.sp + 1))) + 1 }

/-- The round trip the spec derives from R220 and R221, for every target and every S. -/
def Obligations.JsrThenRtsComesBack : Prop :=
  ∀ (w : Word) (s : State), ∃ t u : State, exec (.jsr w) s = .next t ∧ exec .rts t = .next u ∧
    u = { s with pc := s.pc + 3, mem := u.mem } ∧
    (∀ a : Word, a ≠ w16 s.cfg.stackPage s.sp → a ≠ w16 s.cfg.stackPage (s.sp - 1) → u.read a = s.read a)

/-- R230, R233, R234; the layout of the status byte is the statement about P(b). -/
def Obligations.PushesWriteTheStackByte : Prop :=
  ∀ (i : Instr) (s : State) (v : Byte), (i = .pha ∧ v = s.a ∨ i = .php ∧ v = s.p.status true) →
    ∃ t : State, exec i s = .next t ∧ t = { s with sp := s.sp - 1, pc := s.pc + 1, mem := t.mem } ∧
      t.read (w16 s.cfg.stackPage s.sp) = v ∧
      (∀ a : Word, a ≠ w16 s.cfg.stackPage s.sp → t.read a = s.read a)

/-- R231, R235, R236; the bit positions are the choice of D1 and D2. -/
def Obligations.PullsTakeTheStackByte : Prop :=
  ∀ (s : State) (v : Byte), v = s.read (w16 s.cfg.stackPage (s.sp + 1)) →
    exec .pla s = .next { s with a := v, sp := s.sp + 1, pc := s.pc + 1, p := { s.p with z := decide (v = 0), n := v.getLsbD 7 } } ∧
    exec .plp s = .next { s with sp := s.sp + 1, pc := s.pc + 1, p := { c := v.getLsbD 0, z := v.getLsbD 1, i := v.getLsbD 2, d := v.getLsbD 3, v := v.getLsbD 6, n := v.getLsbD 7 } }

/-- The two round trips, with the condition C8 puts on the flags. -/
def Obligations.PushThenPullRestores : Prop :=
  ∀ s : State,
    (∃ t u : State, exec .php s = .next t ∧ exec .plp t = .next u ∧ u = { s with pc := s.pc + 2, mem := u.mem }) ∧
    (∃ t u : State, exec .pha s = .next t ∧ exec .pla t = .next u ∧
      u = { s with pc := s.pc + 2, mem := u.mem, p := { s.p with z := decide (s.a = 0), n := s.a.getLsbD 7 } } ∧
      (u.p = s.p ↔ s.p.z = decide (s.a = 0) ∧ s.p.n = s.a.getLsbD 7))

/-- R232: the wrap is silent and the accesses never leave the page. -/
def Obligations.PushesWrapTheWholeStackPage : Prop :=
  ∀ (s : State) (vs : List Byte), vs.length = 256 →
    (vs.foldl State.push s).sp = s.sp ∧
    (∀ k : Nat, k < 256 →
      some ((vs.foldl State.push s).read (w16 s.cfg.stackPage (s.sp - BitVec.ofNat 8 k))) = vs[k]?) ∧
    (∀ a : Word, hi a ≠ s.cfg.stackPage → (vs.foldl State.push s).read a = s.read a)

/-- R237, for both values of the parameter of D4; that D and the other flags stay is the choice of D6. -/
def Obligations.BrkEntersTheHandler : Prop :=
  ∀ (s : State) (ret : Word), (s.cfg.brkReturnOffset = .one ∧ ret = s.pc + 1 ∨ s.cfg.brkReturnOffset = .two ∧
  ret = s.pc + 2) →
    ∃ t : State, exec .brk s = .next t ∧
      t.read (w16 s.cfg.stackPage s.sp) = hi ret ∧
      t.read (w16 s.cfg.stackPage (s.sp - 1)) = lo ret ∧
      t.read (w16 s.cfg.stackPage (s.sp - 2)) = s.p.status true ∧
      (∀ a : Word, a ≠ w16 s.cfg.stackPage s.sp → a ≠ w16 s.cfg.stackPage (s.sp - 1) →
        a ≠ w16 s.cfg.stackPage (s.sp - 2) → t.read a = s.read a) ∧
      t = { s with
        sp := s.sp - 3
        p := { s.p with i := true }
        pc := w16 (t.read 0xFFFF) (t.read 0xFFFE)
        mem := t.mem }

/-- R238; RestoreFlags is the statement about P(b). -/
def Obligations.RtiRestoresFlagsAndPc : Prop :=
  ∀ s : State, exec .rti s = .next { s with
    sp := s.sp + 3
    p := restoreFlags (s.read (w16 s.cfg.stackPage (s.sp + 1)))
    pc := w16 (s.read (w16 s.cfg.stackPage (s.sp + 3))) (s.read (w16 s.cfg.stackPage (s.sp + 2))) }

/-- R261 with R256 and R237: RTI resumes the interrupted program (D5), and after BRK it goes to op_addr +
  BRK_RETURN_OFFSET (D4). -/
def Obligations.HandlersReturnWhereTheyWereEntered : Prop :=
  ∀ s : State,
    let same := fun u : State => ∀ a : Word, a ≠ w16 s.cfg.stackPage s.sp → a ≠ w16 s.cfg.stackPage (s.sp - 1) →
      a ≠ w16 s.cfg.stackPage (s.sp - 2) → u.read a = s.read a
    (∀ vec : Word, ∃ u : State, exec .rti (interruptEntry vec s) = .next u ∧ u = { s with mem := u.mem } ∧ same u) ∧
    (∃ t u : State, exec .brk s = .next t ∧ exec .rti t = .next u ∧
      u = { s with pc := s.pc + s.cfg.brkReturnOffset.toWord, mem := u.mem } ∧ same u)

/-- R27 and R28; the layout is the choice of D1 and D2. -/
def Obligations.StatusByteLayout : Prop :=
  ∀ (f : Flags) (b : Bool) (p q : Byte),
    (f.status b).toNat = 128 * f.n.toNat + 64 * f.v.toNat + 32 + 16 * b.toNat + 8 * f.d.toNat + 4 * f.i.toNat +
      2 * f.z.toNat + f.c.toNat ∧
    (restoreFlags p = restoreFlags q ↔ p &&& 0xCF = q &&& 0xCF) ∧ restoreFlags (f.status b) = f

/-- R8 and R179 for ADC and SBC, and the D row of the table of R26 for the rest. -/
def Obligations.DecimalModeIsInert : Prop :=
  ∀ (i : Instr) (s : State) (b : Bool), i.mnemonic ∉ [Mnemonic.PHP, .BRK] →
    ∃ (t : State) (b' : Bool), exec i s = .next t ∧
      exec i { s with p := { s.p with d := b } } = .next { t with p := { t.p with d := b' } } ∧
      (i.mnemonic ∈ [Mnemonic.ADC, .SBC] → t.p.d = s.p.d ∧ b' = b)

/-- The table of R26, read as a frame of every instruction. -/
def Obligations.FlagsChangeOnlyByTheirWriters : Prop :=
  ∀ (i : Instr) (s t : State), exec i s = .next t →
    (t.p.c = s.p.c ∨ i.mnemonic ∈
      [Mnemonic.ADC, .SBC, .ASL, .LSR, .ROL, .ROR, .CMP, .CPX, .CPY, .CLC, .SEC, .PLP, .RTI]) ∧
    (t.p.z = s.p.z ∧ t.p.n = s.p.n ∨ i.mnemonic ∈
      [Mnemonic.ADC, .SBC, .AND, .ORA, .EOR, .BIT, .ASL, .LSR, .ROL, .ROR, .CMP, .CPX, .CPY, .INC, .DEC,
        .INX, .INY, .DEX, .DEY, .LDA, .LDX, .LDY, .TAX, .TAY, .TXA, .TYA, .TSX, .PLA, .PLP, .RTI]) ∧
    (t.p.i = s.p.i ∨ i.mnemonic ∈ [Mnemonic.CLI, .SEI, .BRK, .PLP, .RTI]) ∧
    (t.p.d = s.p.d ∨ i.mnemonic ∈ [Mnemonic.CLD, .SED, .PLP, .RTI]) ∧
    (t.p.v = s.p.v ∨ i.mnemonic ∈ [Mnemonic.ADC, .SBC, .BIT, .CLV, .PLP, .RTI])

/-- The writers R20-R22 list, and the straight-line sentence of R24, read as a frame of every instruction. -/
def Obligations.RegistersChangeOnlyByTheirWriters : Prop :=
  ∀ (i : Instr) (s t : State), exec i s = .next t →
    (t.a = s.a ∨ i.mnemonic ∈ [Mnemonic.LDA, .PLA, .TXA, .TYA, .ADC, .SBC, .AND, .ORA, .EOR] ∨
      i.operand = .accumulator) ∧
    (t.x = s.x ∨ i.mnemonic ∈ [Mnemonic.LDX, .TAX, .TSX, .INX, .DEX]) ∧
    (t.y = s.y ∨ i.mnemonic ∈ [Mnemonic.LDY, .TAY, .INY, .DEY]) ∧
    (t.sp = s.sp ∨ i.mnemonic ∈ [Mnemonic.TXS, .JSR, .RTS, .PHA, .PHP, .PLA, .PLP, .BRK, .RTI]) ∧
    (t.pc = s.pc + BitVec.ofNat 16 i.length ∨ i.operand.mode = .relative ∨
      i.mnemonic ∈ [Mnemonic.JMP, .JSR, .RTS, .BRK, .RTI])

/-- R56 and R58 read as the memory frame of every instruction. -/
def Obligations.MemoryChangesOnlyWhereStored : Prop :=
  ∀ (i : Instr) (s t : State), exec i s = .next t →
    (∀ ea, i.mnemonic ∈ [Mnemonic.STA, .STX, .STY, .INC, .DEC, .ASL, .LSR, .ROL, .ROR] →
      (resolve i.operand s).1 = some ea →
      ∀ b : Word, b ≠ ea → t.read b = s.read b) ∧
    (i.mnemonic ∈ [Mnemonic.PHA, .PHP] → ∀ b : Word, b ≠ w16 s.cfg.stackPage s.sp → t.read b = s.read b) ∧
    (i.mnemonic = .JSR → ∀ b : Word, b ≠ w16 s.cfg.stackPage s.sp → b ≠ w16 s.cfg.stackPage (s.sp - 1) →
      t.read b = s.read b) ∧
    (i.mnemonic = .BRK → ∀ b : Word, b ≠ w16 s.cfg.stackPage s.sp → b ≠ w16 s.cfg.stackPage (s.sp - 1) →
      b ≠ w16 s.cfg.stackPage (s.sp - 2) → t.read b = s.read b) ∧
    ((i.mnemonic ∉ [Mnemonic.STA, .STX, .STY, .INC, .DEC, .ASL, .LSR, .ROL, .ROR, .PHA, .PHP, .JSR, .BRK] ∨
      i.operand = .accumulator) →
      ∀ b : Word, t.read b = s.read b)

/-- R251: no mapped opcode traps, whatever the state; with the frame of the requests and the latch, whose writers R31
  and R32 list. That the parameters are a field that no instruction changes is the choice of log entry 3. -/
def Obligations.ExecutionNeverFails : Prop :=
  ∀ (i : Instr) (s : State), ∃ t : State, exec i s = .next t ∧ t.irqPending = s.irqPending ∧
    t.nmiPending = s.nmiPending ∧ t.fault = s.fault ∧ t.cfg = s.cfg

/-- An invariant of the machine, from every state and not only from runs from reset; the canonical form is the one of
  log entry 1. That the parameters of R10 are a field that no step changes is the choice of log entry 3, and that the
  state after a fault is held beside step is log entry 6. -/
def Obligations.StepsKeepStatesSound : Prop :=
  ∀ s : State, s.Sound →
    (∀ t, step s = .next t → t.Sound ∧ t.cfg = s.cfg) ∧
    (∀ f, step s = .fault f → (afterStep s).mem.wf ∧ (afterStep s).cfg = s.cfg)

/-- State.reset against R281 and R35; its empty memory is the choice of log entry 1, its default parameters those of
  log entry 3, and the PC that follows that of log entry 4. -/
def Obligations.TheResetStateIsSound : Prop :=
  State.reset.Sound ∧ hostReset (constructed [] Config.default) = State.reset

/-- R280 and R281; the values other than PC are the choice of D17, and the two reads and their order those of D18 and
  D31. -/
def Obligations.ResetLeavesTheStatedValues : Prop :=
  ∀ s : State, resetAccesses s = [.read 0xFFFC (s.read 0xFFFC), .read 0xFFFD (s.read 0xFFFD)] ∧
    hostReset s =
    { a := 0, x := 0, y := 0, sp := s.cfg.resetS, pc := w16 (s.read 0xFFFD) (s.read 0xFFFC),
      p := { c := false, z := false, i := s.cfg.resetI, d := false, v := false, n := false },
      irqPending := false, nmiPending := false, fault := none, mem := s.mem, cfg := s.cfg }

/-- The loading contract of R290, in the order it gives. That an image which runs past 0xFFFF goes on at 0x0000 is
  the choice of log entry 5, and only the frame clause speaks of such an image. -/
def Obligations.LoadedProgramsStartAtTheirEntry : Prop :=
  ∀ (image : List Byte) (offset entry : Word) (s : State),
    (hostLoad image offset entry s).pc = entry ∧
    (hostLoad image offset entry s).read 0xFFFC = lo entry ∧ (hostLoad image offset entry s).read 0xFFFD = hi entry ∧
    (∀ a : Word, a ≠ 0xFFFC → a ≠ 0xFFFD → (∀ k : Nat, k < image.length → a ≠ offset + BitVec.ofNat 16 k) →
      (hostLoad image offset entry s).read a = s.read a) ∧
    (offset.toNat + image.length ≤ 0x10000 → ∀ k : Nat, k < image.length →
      offset.toNat + k ≠ 0xFFFC → offset.toNat + k ≠ 0xFFFD →
      some ((hostLoad image offset entry s).read (BitVec.ofNat 16 (offset.toNat + k))) = image[k]?)

/-- R56 and R64: the accesses in order account for every byte read and for the whole effect on memory. Which accesses
  there are, with no dummy one, is the choice of D12 (log entry 10); the RAM without side effects is that of log
  entry 2, the state after a fault that of log entry 6, and the three bytes decoded together those of log entry 8. -/
def Obligations.StepsAreTheirAccessSequence : Prop :=
  ∀ s : State, replay (stepAccesses s) s.mem = some (afterStep s).mem

/-- R128 and R129: the fuel of the definition never runs out. What run returns on a fault is the choice of D20, the
  signed budget that of D28, and the bound on what it overspends rests on the cycle counts of D14 (log entry 10);
  that the cost stands beside the step is log entry 7. -/
def Obligations.RunUnfoldsStepByStep : Prop :=
  ∀ (budget : Int) (s : State),
    (budget ≤ 0 → run budget s = { state := s, total := 0, outcome := .next () }) ∧
    (0 < budget → ∀ c, stepReturn s = .next c → run budget s =
      { run (budget - c) (afterStep s) with total := c + (run (budget - c) (afterStep s)).total }) ∧
    (0 < budget → ∀ f, stepReturn s = .fault f →
      run budget s = { state := afterStep s, total := 0, outcome := .fault f }) ∧
    (0 < budget → (run budget s).outcome = .next () → budget ≤ (run budget s).total ∧ (run budget s).total ≤ budget + 6)

/-- The canonical form of log entry 1 stands for the 65,536 bytes of R50 and nothing more. -/
def Obligations.EqualReadsMakeEqualMemories : Prop :=
  ∀ m n : Memory, m.wf → n.wf → (∀ a : Word, m.read a = n.read a) → m = n

/-- R56, R59 and U13: the program of Machine/Bus.lean takes every byte from the backing, and two reads of one address
  may be answered differently; the step is that program for the RAM of R64. Which accesses there are, and their
  order, are the choices of D12, D18 and D31 (log entry 10); that State holds a RAM is log entry 1, and how the two
  descriptions stand to each other log entry 12. -/
def Obligations.StepsAreTheInterfaceProgramOnRam : Prop :=
  ∀ s : State,
    (busStep s).serve ram s.mem =
      (stepAccesses s, (afterStep s).mem, { afterStep s with mem := s.mem }, stepReturn s) ∧
    (∀ m : Memory, busStep { s with mem := m } = (busStep s).map (fun r => ({ r.1 with mem := m }, r.2))) ∧
    (∀ (β : Type) (B : Backing β) (b : β),
      let l := B.answer b 0xFFFC
      let h := B.answer l.2 0xFFFD
      (busReset s).serve B b = ([.read 0xFFFC l.1, .read 0xFFFD h.1], h.2, s.fromReset l.1 h.1)) ∧
    s.fromReset (s.read 0xFFFC) (s.read 0xFFFD) = hostReset s
end

