-- ==== Sys2Proof/Laws/State.lean ====
section
/-! SUPPORT. One lemma for each field of State and each named update of it, so that no proof unfolds a record update. -/

namespace Sys2Proof.Machine

@[simp] theorem State.advance_a (s : State) (n : Word) : (s.advance n).a = s.a := rfl
@[simp] theorem State.advance_x (s : State) (n : Word) : (s.advance n).x = s.x := rfl
@[simp] theorem State.advance_y (s : State) (n : Word) : (s.advance n).y = s.y := rfl
@[simp] theorem State.advance_sp (s : State) (n : Word) : (s.advance n).sp = s.sp := rfl
@[simp] theorem State.advance_pc (s : State) (n : Word) : (s.advance n).pc = s.pc + n := rfl
@[simp] theorem State.advance_p (s : State) (n : Word) : (s.advance n).p = s.p := rfl
@[simp] theorem State.advance_irqPending (s : State) (n : Word) : (s.advance n).irqPending = s.irqPending := rfl
@[simp] theorem State.advance_nmiPending (s : State) (n : Word) : (s.advance n).nmiPending = s.nmiPending := rfl
@[simp] theorem State.advance_fault (s : State) (n : Word) : (s.advance n).fault = s.fault := rfl
@[simp] theorem State.advance_mem (s : State) (n : Word) : (s.advance n).mem = s.mem := rfl
@[simp] theorem State.advance_cfg (s : State) (n : Word) : (s.advance n).cfg = s.cfg := rfl

@[simp] theorem State.write_a (s : State) (a : Word) (v : Byte) : (s.write a v).a = s.a := rfl
@[simp] theorem State.write_x (s : State) (a : Word) (v : Byte) : (s.write a v).x = s.x := rfl
@[simp] theorem State.write_y (s : State) (a : Word) (v : Byte) : (s.write a v).y = s.y := rfl
@[simp] theorem State.write_sp (s : State) (a : Word) (v : Byte) : (s.write a v).sp = s.sp := rfl
@[simp] theorem State.write_pc (s : State) (a : Word) (v : Byte) : (s.write a v).pc = s.pc := rfl
@[simp] theorem State.write_p (s : State) (a : Word) (v : Byte) : (s.write a v).p = s.p := rfl
@[simp] theorem State.write_irqPending (s : State) (a : Word) (v : Byte) :
    (s.write a v).irqPending =
      s.irqPending := rfl
@[simp] theorem State.write_nmiPending (s : State) (a : Word) (v : Byte) :
    (s.write a v).nmiPending =
      s.nmiPending := rfl
@[simp] theorem State.write_fault (s : State) (a : Word) (v : Byte) : (s.write a v).fault = s.fault := rfl
@[simp] theorem State.write_mem (s : State) (a : Word) (v : Byte) : (s.write a v).mem = s.mem.write a v := rfl
@[simp] theorem State.write_cfg (s : State) (a : Word) (v : Byte) : (s.write a v).cfg = s.cfg := rfl

@[simp] theorem State.push_a (s : State) (v : Byte) : (s.push v).a = s.a := rfl
@[simp] theorem State.push_x (s : State) (v : Byte) : (s.push v).x = s.x := rfl
@[simp] theorem State.push_y (s : State) (v : Byte) : (s.push v).y = s.y := rfl
@[simp] theorem State.push_sp (s : State) (v : Byte) : (s.push v).sp = s.sp - 1 := rfl
@[simp] theorem State.push_pc (s : State) (v : Byte) : (s.push v).pc = s.pc := rfl
@[simp] theorem State.push_p (s : State) (v : Byte) : (s.push v).p = s.p := rfl
@[simp] theorem State.push_irqPending (s : State) (v : Byte) : (s.push v).irqPending = s.irqPending := rfl
@[simp] theorem State.push_nmiPending (s : State) (v : Byte) : (s.push v).nmiPending = s.nmiPending := rfl
@[simp] theorem State.push_fault (s : State) (v : Byte) : (s.push v).fault = s.fault := rfl
@[simp] theorem State.push_mem (s : State) (v : Byte) : (s.push v).mem = s.mem.write s.stackAddr v := rfl
@[simp] theorem State.push_cfg (s : State) (v : Byte) : (s.push v).cfg = s.cfg := rfl

@[simp] theorem State.popped_a (s : State) : (s.popped).a = s.a := rfl
@[simp] theorem State.popped_x (s : State) : (s.popped).x = s.x := rfl
@[simp] theorem State.popped_y (s : State) : (s.popped).y = s.y := rfl
@[simp] theorem State.popped_sp (s : State) : (s.popped).sp = s.sp + 1 := rfl
@[simp] theorem State.popped_pc (s : State) : (s.popped).pc = s.pc := rfl
@[simp] theorem State.popped_p (s : State) : (s.popped).p = s.p := rfl
@[simp] theorem State.popped_irqPending (s : State) : (s.popped).irqPending = s.irqPending := rfl
@[simp] theorem State.popped_nmiPending (s : State) : (s.popped).nmiPending = s.nmiPending := rfl
@[simp] theorem State.popped_fault (s : State) : (s.popped).fault = s.fault := rfl
@[simp] theorem State.popped_mem (s : State) : (s.popped).mem = s.mem := rfl
@[simp] theorem State.popped_cfg (s : State) : (s.popped).cfg = s.cfg := rfl

@[simp] theorem State.past_a (s : State) (m : Mode) : (s.past m).a = s.a := rfl
@[simp] theorem State.past_x (s : State) (m : Mode) : (s.past m).x = s.x := rfl
@[simp] theorem State.past_y (s : State) (m : Mode) : (s.past m).y = s.y := rfl
@[simp] theorem State.past_sp (s : State) (m : Mode) : (s.past m).sp = s.sp := rfl
@[simp] theorem State.past_pc (s : State) (m : Mode) : (s.past m).pc = s.pc + BitVec.ofNat 16 m.length := rfl
@[simp] theorem State.past_p (s : State) (m : Mode) : (s.past m).p = s.p := rfl
@[simp] theorem State.past_irqPending (s : State) (m : Mode) : (s.past m).irqPending = s.irqPending := rfl
@[simp] theorem State.past_nmiPending (s : State) (m : Mode) : (s.past m).nmiPending = s.nmiPending := rfl
@[simp] theorem State.past_fault (s : State) (m : Mode) : (s.past m).fault = s.fault := rfl
@[simp] theorem State.past_mem (s : State) (m : Mode) : (s.past m).mem = s.mem := rfl
@[simp] theorem State.past_cfg (s : State) (m : Mode) : (s.past m).cfg = s.cfg := rfl

@[simp] theorem State.pushFrame_a (s : State) (brk : Bool) (ret : Word) : (s.pushFrame brk ret).a = s.a := rfl
@[simp] theorem State.pushFrame_x (s : State) (brk : Bool) (ret : Word) : (s.pushFrame brk ret).x = s.x := rfl
@[simp] theorem State.pushFrame_y (s : State) (brk : Bool) (ret : Word) : (s.pushFrame brk ret).y = s.y := rfl
@[simp] theorem State.pushFrame_sp (s : State) (brk : Bool) (ret : Word) :
    (s.pushFrame brk ret).sp =
      s.sp - 1 - 1 - 1 := rfl
@[simp] theorem State.pushFrame_pc (s : State) (brk : Bool) (ret : Word) : (s.pushFrame brk ret).pc = s.pc := rfl
@[simp] theorem State.pushFrame_p (s : State) (brk : Bool) (ret : Word) : (s.pushFrame brk ret).p = s.p := rfl
@[simp] theorem State.pushFrame_irqPending (s : State) (brk : Bool) (ret : Word) :
    (s.pushFrame brk ret).irqPending =
      s.irqPending := rfl
@[simp] theorem State.pushFrame_nmiPending (s : State) (brk : Bool) (ret : Word) :
    (s.pushFrame brk ret).nmiPending =
      s.nmiPending := rfl
@[simp] theorem State.pushFrame_fault (s : State) (brk : Bool) (ret : Word) :
    (s.pushFrame brk ret).fault =
      s.fault := rfl
@[simp] theorem State.pushFrame_mem (s : State) (brk : Bool) (ret : Word) :
    (s.pushFrame brk ret).mem =
      (((s.mem.write s.stackAddr (hi ret)).write (s.push (hi ret)).stackAddr (lo ret)).write
      ((s.push (hi ret)).push (lo ret)).stackAddr (s.p.status brk)) := rfl
@[simp] theorem State.pushFrame_cfg (s : State) (brk : Bool) (ret : Word) : (s.pushFrame brk ret).cfg = s.cfg := rfl

@[simp] theorem enterHandler_a (brk : Bool) (ret vec : Word) (s : State) :
    (enterHandler brk ret vec s).a = s.a := rfl
@[simp] theorem enterHandler_x (brk : Bool) (ret vec : Word) (s : State) :
    (enterHandler brk ret vec s).x = s.x := rfl
@[simp] theorem enterHandler_y (brk : Bool) (ret vec : Word) (s : State) :
    (enterHandler brk ret vec s).y = s.y := rfl
@[simp] theorem enterHandler_sp (brk : Bool) (ret vec : Word) (s : State) :
    (enterHandler brk ret vec s).sp = s.sp - 1 - 1 - 1 := rfl
@[simp] theorem enterHandler_pc (brk : Bool) (ret vec : Word) (s : State) :
    (enterHandler brk ret vec s).pc = (s.pushFrame brk ret).read16 vec := rfl
@[simp] theorem enterHandler_p (brk : Bool) (ret vec : Word) (s : State) :
    (enterHandler brk ret vec s).p = { s.p with i := true } := rfl
@[simp] theorem enterHandler_irqPending (brk : Bool) (ret vec : Word) (s : State) :
    (enterHandler brk ret vec s).irqPending = s.irqPending := rfl
@[simp] theorem enterHandler_nmiPending (brk : Bool) (ret vec : Word) (s : State) :
    (enterHandler brk ret vec s).nmiPending = s.nmiPending := rfl
@[simp] theorem enterHandler_fault (brk : Bool) (ret vec : Word) (s : State) :
    (enterHandler brk ret vec s).fault = s.fault := rfl
@[simp] theorem enterHandler_mem (brk : Bool) (ret vec : Word) (s : State) :
    (enterHandler brk ret vec s).mem = (s.pushFrame brk ret).mem := rfl
@[simp] theorem enterHandler_cfg (brk : Bool) (ret vec : Word) (s : State) :
    (enterHandler brk ret vec s).cfg = s.cfg := rfl

@[simp] theorem interruptEntry_a (vec : Word) (s : State) :
    (interruptEntry vec s).a = s.a := rfl
@[simp] theorem interruptEntry_x (vec : Word) (s : State) :
    (interruptEntry vec s).x = s.x := rfl
@[simp] theorem interruptEntry_y (vec : Word) (s : State) :
    (interruptEntry vec s).y = s.y := rfl
@[simp] theorem interruptEntry_sp (vec : Word) (s : State) :
    (interruptEntry vec s).sp = s.sp - 1 - 1 - 1 := rfl
@[simp] theorem interruptEntry_pc (vec : Word) (s : State) :
    (interruptEntry vec s).pc = (s.pushFrame false s.pc).read16 vec := rfl
@[simp] theorem interruptEntry_p (vec : Word) (s : State) :
    (interruptEntry vec s).p = { s.p with i := true } := rfl
@[simp] theorem interruptEntry_irqPending (vec : Word) (s : State) :
    (interruptEntry vec s).irqPending = s.irqPending := rfl
@[simp] theorem interruptEntry_nmiPending (vec : Word) (s : State) :
    (interruptEntry vec s).nmiPending = s.nmiPending := rfl
@[simp] theorem interruptEntry_fault (vec : Word) (s : State) :
    (interruptEntry vec s).fault = s.fault := rfl
@[simp] theorem interruptEntry_mem (vec : Word) (s : State) :
    (interruptEntry vec s).mem = (s.pushFrame false s.pc).mem := rfl
@[simp] theorem interruptEntry_cfg (vec : Word) (s : State) :
    (interruptEntry vec s).cfg = s.cfg := rfl

@[simp] theorem returnFromHandler_a (s : State) :
    (returnFromHandler s).a = s.a := rfl
@[simp] theorem returnFromHandler_x (s : State) :
    (returnFromHandler s).x = s.x := rfl
@[simp] theorem returnFromHandler_y (s : State) :
    (returnFromHandler s).y = s.y := rfl
@[simp] theorem returnFromHandler_sp (s : State) :
    (returnFromHandler s).sp = s.sp + 1 + 1 + 1 := rfl
@[simp] theorem returnFromHandler_pc (s : State) :
    (returnFromHandler s).pc = w16 s.popped.popped.top s.popped.top := rfl
@[simp] theorem returnFromHandler_p (s : State) :
    (returnFromHandler s).p = restoreFlags s.top := rfl
@[simp] theorem returnFromHandler_irqPending (s : State) :
    (returnFromHandler s).irqPending = s.irqPending := rfl
@[simp] theorem returnFromHandler_nmiPending (s : State) :
    (returnFromHandler s).nmiPending = s.nmiPending := rfl
@[simp] theorem returnFromHandler_fault (s : State) :
    (returnFromHandler s).fault = s.fault := rfl
@[simp] theorem returnFromHandler_mem (s : State) :
    (returnFromHandler s).mem = s.mem := rfl
@[simp] theorem returnFromHandler_cfg (s : State) :
    (returnFromHandler s).cfg = s.cfg := rfl

@[simp] theorem latchDecodeError_a (s : State) :
    (latchDecodeError s).a = s.a := rfl
@[simp] theorem latchDecodeError_x (s : State) :
    (latchDecodeError s).x = s.x := rfl
@[simp] theorem latchDecodeError_y (s : State) :
    (latchDecodeError s).y = s.y := rfl
@[simp] theorem latchDecodeError_sp (s : State) :
    (latchDecodeError s).sp = s.sp := rfl
@[simp] theorem latchDecodeError_pc (s : State) :
    (latchDecodeError s).pc = s.pc + 1 := rfl
@[simp] theorem latchDecodeError_p (s : State) :
    (latchDecodeError s).p = s.p := rfl
@[simp] theorem latchDecodeError_irqPending (s : State) :
    (latchDecodeError s).irqPending = s.irqPending := rfl
@[simp] theorem latchDecodeError_nmiPending (s : State) :
    (latchDecodeError s).nmiPending = s.nmiPending := rfl
@[simp] theorem latchDecodeError_fault (s : State) :
    (latchDecodeError s).fault = some { opcode := s.read s.pc, addr := s.pc } := rfl
@[simp] theorem latchDecodeError_mem (s : State) :
    (latchDecodeError s).mem = s.mem := rfl
@[simp] theorem latchDecodeError_cfg (s : State) :
    (latchDecodeError s).cfg = s.cfg := rfl

@[simp] theorem State.read_def (s : State) (a : Word) : s.read a = s.mem.read a := rfl

/-- A push changes nothing but S and the byte at the stack address (R230). -/
theorem State.push_eq (s : State) (v : Byte) :
    s.push v = { s with mem := s.mem.write s.stackAddr v, sp := s.sp - 1 } := rfl

@[simp] theorem State.top_eq (s : State) : s.top = s.mem.read (w16 s.cfg.stackPage (s.sp + 1)) := rfl

@[simp] theorem State.stackAddr_push (s : State) (v : Byte) :
    (s.push v).stackAddr = w16 s.cfg.stackPage (s.sp - 1) := rfl

@[simp] theorem State.stackAddr_popped (s : State) : s.popped.stackAddr = w16 s.cfg.stackPage (s.sp + 1) := rfl

@[simp] theorem State.pushed_a (s : State) : (s.pushed).a = s.a := rfl
@[simp] theorem State.pushed_x (s : State) : (s.pushed).x = s.x := rfl
@[simp] theorem State.pushed_y (s : State) : (s.pushed).y = s.y := rfl
@[simp] theorem State.pushed_sp (s : State) : (s.pushed).sp = s.sp - 1 := rfl
@[simp] theorem State.pushed_pc (s : State) : (s.pushed).pc = s.pc := rfl
@[simp] theorem State.pushed_p (s : State) : (s.pushed).p = s.p := rfl
@[simp] theorem State.pushed_irqPending (s : State) : (s.pushed).irqPending = s.irqPending := rfl
@[simp] theorem State.pushed_nmiPending (s : State) : (s.pushed).nmiPending = s.nmiPending := rfl
@[simp] theorem State.pushed_fault (s : State) : (s.pushed).fault = s.fault := rfl
@[simp] theorem State.pushed_mem (s : State) : (s.pushed).mem = s.mem := rfl
@[simp] theorem State.pushed_cfg (s : State) : (s.pushed).cfg = s.cfg := rfl

@[simp] theorem State.toHandler_a (s : State) (l h : Byte) : (s.toHandler l h).a = s.a := rfl
@[simp] theorem State.toHandler_x (s : State) (l h : Byte) : (s.toHandler l h).x = s.x := rfl
@[simp] theorem State.toHandler_y (s : State) (l h : Byte) : (s.toHandler l h).y = s.y := rfl
@[simp] theorem State.toHandler_sp (s : State) (l h : Byte) : (s.toHandler l h).sp = s.sp := rfl
@[simp] theorem State.toHandler_pc (s : State) (l h : Byte) : (s.toHandler l h).pc = w16 h l := rfl
@[simp] theorem State.toHandler_p (s : State) (l h : Byte) : (s.toHandler l h).p = { s.p with i := true } := rfl
@[simp] theorem State.toHandler_irqPending (s : State) (l h : Byte) :
    (s.toHandler l h).irqPending = s.irqPending := rfl
@[simp] theorem State.toHandler_nmiPending (s : State) (l h : Byte) :
    (s.toHandler l h).nmiPending = s.nmiPending := rfl
@[simp] theorem State.toHandler_fault (s : State) (l h : Byte) : (s.toHandler l h).fault = s.fault := rfl
@[simp] theorem State.toHandler_mem (s : State) (l h : Byte) : (s.toHandler l h).mem = s.mem := rfl
@[simp] theorem State.toHandler_cfg (s : State) (l h : Byte) : (s.toHandler l h).cfg = s.cfg := rfl

@[simp] theorem State.fromHandler_a (s : State) (st l h : Byte) : (s.fromHandler st l h).a = s.a := rfl
@[simp] theorem State.fromHandler_x (s : State) (st l h : Byte) : (s.fromHandler st l h).x = s.x := rfl
@[simp] theorem State.fromHandler_y (s : State) (st l h : Byte) : (s.fromHandler st l h).y = s.y := rfl
@[simp] theorem State.fromHandler_sp (s : State) (st l h : Byte) : (s.fromHandler st l h).sp = s.sp := rfl
@[simp] theorem State.fromHandler_pc (s : State) (st l h : Byte) : (s.fromHandler st l h).pc = w16 h l := rfl
@[simp] theorem State.fromHandler_p (s : State) (st l h : Byte) : (s.fromHandler st l h).p = restoreFlags st := rfl
@[simp] theorem State.fromHandler_irqPending (s : State) (st l h : Byte) :
    (s.fromHandler st l h).irqPending = s.irqPending := rfl
@[simp] theorem State.fromHandler_nmiPending (s : State) (st l h : Byte) :
    (s.fromHandler st l h).nmiPending = s.nmiPending := rfl
@[simp] theorem State.fromHandler_fault (s : State) (st l h : Byte) : (s.fromHandler st l h).fault = s.fault := rfl
@[simp] theorem State.fromHandler_mem (s : State) (st l h : Byte) : (s.fromHandler st l h).mem = s.mem := rfl
@[simp] theorem State.fromHandler_cfg (s : State) (st l h : Byte) : (s.fromHandler st l h).cfg = s.cfg := rfl

end Sys2Proof.Machine
end

