-- ==== Sys2Proof/Laws/Access.lean ====
section
/-! SUPPORT. What replaying each piece of an access sequence leaves. -/

namespace Sys2Proof.Machine

theorem replay_append (l k : List Access) (m : Memory) : replay (l ++ k) m = (replay l m).bind (replay k) := by
  induction l generalizing m with
  | nil => rfl
  | cons a l ih =>
    cases a with
    | read a v => simp only [List.cons_append, replay]; split <;> simp [ih]
    | write a v => simp only [List.cons_append, replay]; exact ih _

/-- A read of the memory a state holds goes through. -/
@[simp] theorem replay_readAt (s : State) (a : Word) (l : List Access) :
    replay (readAt s a :: l) s.mem = replay l s.mem := by simp [readAt, replay, State.read]

@[simp] theorem replay_fetchAccesses (m : Mode) (s : State) : replay (fetchAccesses m s) s.mem = some s.mem := by
  cases m <;> simp [fetchAccesses, Mode.length, replay]

@[simp] theorem replay_pointerAccesses (r : MemRef) (s : State) : replay (pointerAccesses r s) s.mem = some s.mem := by
  cases r <;> simp [pointerAccesses, zeroPagePointer, replay]

@[simp] theorem replay_pushAccesses (vs : List Byte) :
    ∀ s : State, replay (pushAccesses vs s) s.mem = some (vs.foldl State.push s).mem := by
  induction vs with
  | nil => intro s; rfl
  | cons v vs ih => intro s; exact ih (s.push v)

@[simp] theorem replay_pullAccesses : ∀ (n : Nat) (s : State), replay (pullAccesses n s) s.mem = some s.mem
  | 0, _ => rfl
  | n + 1, s => (replay_readAt s.popped _ _).trans (replay_pullAccesses n s.popped)

@[simp] theorem replay_entryAccesses (brk : Bool) (ret vec : Word) (s : State) :
    replay (entryAccesses brk ret vec s) s.mem = some (enterHandler brk ret vec s).mem := by
  unfold entryAccesses
  rw [replay_append, replay_pushAccesses]
  exact (replay_readAt (s.pushFrame brk ret) _ _).trans (replay_readAt (s.pushFrame brk ret) _ _)

end Sys2Proof.Machine
end

