-- ==== Sys2Proof/Laws/Bits.lean ====
section
/-! SUPPORT. The laws of hi, lo, w16 and the extensions. -/

namespace Sys2Proof.Machine

theorem hi_toNat (w : Word) : (hi w).toNat = w.toNat / 256 := by
  unfold hi; simp [BitVec.extractLsb'_toNat, Nat.shiftRight_eq_div_pow]; omega

theorem lo_toNat (w : Word) : (lo w).toNat = w.toNat % 256 := by
  unfold lo; simp [BitVec.extractLsb'_toNat]

theorem w16_toNat (h l : Byte) : (w16 h l).toNat = h.toNat * 256 + l.toNat := by
  have key := Nat.two_pow_add_eq_or_of_lt l.isLt h.toNat
  unfold w16
  rw [BitVec.toNat_append, Nat.shiftLeft_eq, Nat.mul_comm, ← key, Nat.mul_comm]

theorem zext16_toNat (v : Byte) : (zext16 v).toNat = v.toNat := by
  unfold zext16; simp [BitVec.toNat_setWidth]; omega

theorem sext16_toNat (d : Byte) : (sext16 d).toNat = if d.toNat < 128 then d.toNat else d.toNat + 65280 := by
  unfold sext16
  rw [BitVec.toNat_signExtend]
  simp [BitVec.msb_eq_decide]
  split <;> split <;> omega

@[simp] theorem hi_w16 (h l : Byte) : hi (w16 h l) = h := by
  apply BitVec.eq_of_toNat_eq; rw [hi_toNat, w16_toNat]; omega

@[simp] theorem lo_w16 (h l : Byte) : lo (w16 h l) = l := by
  apply BitVec.eq_of_toNat_eq; rw [lo_toNat, w16_toNat]; omega

@[simp] theorem w16_hi_lo (w : Word) : w16 (hi w) (lo w) = w := by
  apply BitVec.eq_of_toNat_eq; rw [w16_toNat, hi_toNat, lo_toNat]; omega

theorem w16_inj {h l h' l' : Byte} : w16 h l = w16 h' l' ↔ h = h' ∧ l = l' :=
  ⟨fun e => ⟨by simpa using congrArg hi e, by simpa using congrArg lo e⟩, fun ⟨a, b⟩ => by rw [a, b]⟩

end Sys2Proof.Machine
end

