-- ==== Sys2Proof/Laws/PerInstr.lean ====
section
/-! SUPPORT. The family Encoding: what an instruction's encoding is, constructor by constructor. -/

namespace Sys2Proof.Laws

/-- The form exists, the bytes are as many as the mode's length says, and the table gives the opcode byte the instruction's own
operation and mode. -/
def Encoding.Statement (i : Instr) : Prop :=
  i.WellFormed ∧ (encode i).length = i.length ∧
    (opcodeEntry i.opcode).map (fun e => (e.op, e.mode)) = some (i.mnemonic, i.operand.mode)

theorem Encoding.ldaImmediate (v : Byte) : Encoding.Statement (.ldaImmediate v) := ⟨rfl, rfl, rfl⟩
theorem Encoding.ldaZeroPage (b : Byte) : Encoding.Statement (.ldaZeroPage b) := ⟨rfl, rfl, rfl⟩
theorem Encoding.ldaZeroPageX (b : Byte) : Encoding.Statement (.ldaZeroPageX b) := ⟨rfl, rfl, rfl⟩
theorem Encoding.ldaAbsolute (w : Word) : Encoding.Statement (.ldaAbsolute w) := ⟨rfl, rfl, rfl⟩
theorem Encoding.ldaAbsoluteX (w : Word) : Encoding.Statement (.ldaAbsoluteX w) := ⟨rfl, rfl, rfl⟩
theorem Encoding.ldaAbsoluteY (w : Word) : Encoding.Statement (.ldaAbsoluteY w) := ⟨rfl, rfl, rfl⟩
theorem Encoding.ldaIndirectX (b : Byte) : Encoding.Statement (.ldaIndirectX b) := ⟨rfl, rfl, rfl⟩
theorem Encoding.ldaIndirectY (b : Byte) : Encoding.Statement (.ldaIndirectY b) := ⟨rfl, rfl, rfl⟩
theorem Encoding.ldxImmediate (v : Byte) : Encoding.Statement (.ldxImmediate v) := ⟨rfl, rfl, rfl⟩
theorem Encoding.ldxZeroPage (b : Byte) : Encoding.Statement (.ldxZeroPage b) := ⟨rfl, rfl, rfl⟩
theorem Encoding.ldxZeroPageY (b : Byte) : Encoding.Statement (.ldxZeroPageY b) := ⟨rfl, rfl, rfl⟩
theorem Encoding.ldxAbsolute (w : Word) : Encoding.Statement (.ldxAbsolute w) := ⟨rfl, rfl, rfl⟩
theorem Encoding.ldxAbsoluteY (w : Word) : Encoding.Statement (.ldxAbsoluteY w) := ⟨rfl, rfl, rfl⟩
theorem Encoding.ldyImmediate (v : Byte) : Encoding.Statement (.ldyImmediate v) := ⟨rfl, rfl, rfl⟩
theorem Encoding.ldyZeroPage (b : Byte) : Encoding.Statement (.ldyZeroPage b) := ⟨rfl, rfl, rfl⟩
theorem Encoding.ldyZeroPageX (b : Byte) : Encoding.Statement (.ldyZeroPageX b) := ⟨rfl, rfl, rfl⟩
theorem Encoding.ldyAbsolute (w : Word) : Encoding.Statement (.ldyAbsolute w) := ⟨rfl, rfl, rfl⟩
theorem Encoding.ldyAbsoluteX (w : Word) : Encoding.Statement (.ldyAbsoluteX w) := ⟨rfl, rfl, rfl⟩
theorem Encoding.staZeroPage (b : Byte) : Encoding.Statement (.staZeroPage b) := ⟨rfl, rfl, rfl⟩
theorem Encoding.staZeroPageX (b : Byte) : Encoding.Statement (.staZeroPageX b) := ⟨rfl, rfl, rfl⟩
theorem Encoding.staAbsolute (w : Word) : Encoding.Statement (.staAbsolute w) := ⟨rfl, rfl, rfl⟩
theorem Encoding.staAbsoluteX (w : Word) : Encoding.Statement (.staAbsoluteX w) := ⟨rfl, rfl, rfl⟩
theorem Encoding.staAbsoluteY (w : Word) : Encoding.Statement (.staAbsoluteY w) := ⟨rfl, rfl, rfl⟩
theorem Encoding.staIndirectX (b : Byte) : Encoding.Statement (.staIndirectX b) := ⟨rfl, rfl, rfl⟩
theorem Encoding.staIndirectY (b : Byte) : Encoding.Statement (.staIndirectY b) := ⟨rfl, rfl, rfl⟩
theorem Encoding.stxZeroPage (b : Byte) : Encoding.Statement (.stxZeroPage b) := ⟨rfl, rfl, rfl⟩
theorem Encoding.stxZeroPageY (b : Byte) : Encoding.Statement (.stxZeroPageY b) := ⟨rfl, rfl, rfl⟩
theorem Encoding.stxAbsolute (w : Word) : Encoding.Statement (.stxAbsolute w) := ⟨rfl, rfl, rfl⟩
theorem Encoding.styZeroPage (b : Byte) : Encoding.Statement (.styZeroPage b) := ⟨rfl, rfl, rfl⟩
theorem Encoding.styZeroPageX (b : Byte) : Encoding.Statement (.styZeroPageX b) := ⟨rfl, rfl, rfl⟩
theorem Encoding.styAbsolute (w : Word) : Encoding.Statement (.styAbsolute w) := ⟨rfl, rfl, rfl⟩
theorem Encoding.tax : Encoding.Statement (.tax) := ⟨rfl, rfl, rfl⟩
theorem Encoding.tay : Encoding.Statement (.tay) := ⟨rfl, rfl, rfl⟩
theorem Encoding.txa : Encoding.Statement (.txa) := ⟨rfl, rfl, rfl⟩
theorem Encoding.tya : Encoding.Statement (.tya) := ⟨rfl, rfl, rfl⟩
theorem Encoding.tsx : Encoding.Statement (.tsx) := ⟨rfl, rfl, rfl⟩
theorem Encoding.txs : Encoding.Statement (.txs) := ⟨rfl, rfl, rfl⟩
theorem Encoding.adcImmediate (v : Byte) : Encoding.Statement (.adcImmediate v) := ⟨rfl, rfl, rfl⟩
theorem Encoding.adcZeroPage (b : Byte) : Encoding.Statement (.adcZeroPage b) := ⟨rfl, rfl, rfl⟩
theorem Encoding.adcZeroPageX (b : Byte) : Encoding.Statement (.adcZeroPageX b) := ⟨rfl, rfl, rfl⟩
theorem Encoding.adcAbsolute (w : Word) : Encoding.Statement (.adcAbsolute w) := ⟨rfl, rfl, rfl⟩
theorem Encoding.adcAbsoluteX (w : Word) : Encoding.Statement (.adcAbsoluteX w) := ⟨rfl, rfl, rfl⟩
theorem Encoding.adcAbsoluteY (w : Word) : Encoding.Statement (.adcAbsoluteY w) := ⟨rfl, rfl, rfl⟩
theorem Encoding.adcIndirectX (b : Byte) : Encoding.Statement (.adcIndirectX b) := ⟨rfl, rfl, rfl⟩
theorem Encoding.adcIndirectY (b : Byte) : Encoding.Statement (.adcIndirectY b) := ⟨rfl, rfl, rfl⟩
theorem Encoding.sbcImmediate (v : Byte) : Encoding.Statement (.sbcImmediate v) := ⟨rfl, rfl, rfl⟩
theorem Encoding.sbcZeroPage (b : Byte) : Encoding.Statement (.sbcZeroPage b) := ⟨rfl, rfl, rfl⟩
theorem Encoding.sbcZeroPageX (b : Byte) : Encoding.Statement (.sbcZeroPageX b) := ⟨rfl, rfl, rfl⟩
theorem Encoding.sbcAbsolute (w : Word) : Encoding.Statement (.sbcAbsolute w) := ⟨rfl, rfl, rfl⟩
theorem Encoding.sbcAbsoluteX (w : Word) : Encoding.Statement (.sbcAbsoluteX w) := ⟨rfl, rfl, rfl⟩
theorem Encoding.sbcAbsoluteY (w : Word) : Encoding.Statement (.sbcAbsoluteY w) := ⟨rfl, rfl, rfl⟩
theorem Encoding.sbcIndirectX (b : Byte) : Encoding.Statement (.sbcIndirectX b) := ⟨rfl, rfl, rfl⟩
theorem Encoding.sbcIndirectY (b : Byte) : Encoding.Statement (.sbcIndirectY b) := ⟨rfl, rfl, rfl⟩
theorem Encoding.andImmediate (v : Byte) : Encoding.Statement (.andImmediate v) := ⟨rfl, rfl, rfl⟩
theorem Encoding.andZeroPage (b : Byte) : Encoding.Statement (.andZeroPage b) := ⟨rfl, rfl, rfl⟩
theorem Encoding.andZeroPageX (b : Byte) : Encoding.Statement (.andZeroPageX b) := ⟨rfl, rfl, rfl⟩
theorem Encoding.andAbsolute (w : Word) : Encoding.Statement (.andAbsolute w) := ⟨rfl, rfl, rfl⟩
theorem Encoding.andAbsoluteX (w : Word) : Encoding.Statement (.andAbsoluteX w) := ⟨rfl, rfl, rfl⟩
theorem Encoding.andAbsoluteY (w : Word) : Encoding.Statement (.andAbsoluteY w) := ⟨rfl, rfl, rfl⟩
theorem Encoding.andIndirectX (b : Byte) : Encoding.Statement (.andIndirectX b) := ⟨rfl, rfl, rfl⟩
theorem Encoding.andIndirectY (b : Byte) : Encoding.Statement (.andIndirectY b) := ⟨rfl, rfl, rfl⟩
theorem Encoding.oraImmediate (v : Byte) : Encoding.Statement (.oraImmediate v) := ⟨rfl, rfl, rfl⟩
theorem Encoding.oraZeroPage (b : Byte) : Encoding.Statement (.oraZeroPage b) := ⟨rfl, rfl, rfl⟩
theorem Encoding.oraZeroPageX (b : Byte) : Encoding.Statement (.oraZeroPageX b) := ⟨rfl, rfl, rfl⟩
theorem Encoding.oraAbsolute (w : Word) : Encoding.Statement (.oraAbsolute w) := ⟨rfl, rfl, rfl⟩
theorem Encoding.oraAbsoluteX (w : Word) : Encoding.Statement (.oraAbsoluteX w) := ⟨rfl, rfl, rfl⟩
theorem Encoding.oraAbsoluteY (w : Word) : Encoding.Statement (.oraAbsoluteY w) := ⟨rfl, rfl, rfl⟩
theorem Encoding.oraIndirectX (b : Byte) : Encoding.Statement (.oraIndirectX b) := ⟨rfl, rfl, rfl⟩
theorem Encoding.oraIndirectY (b : Byte) : Encoding.Statement (.oraIndirectY b) := ⟨rfl, rfl, rfl⟩
theorem Encoding.eorImmediate (v : Byte) : Encoding.Statement (.eorImmediate v) := ⟨rfl, rfl, rfl⟩
theorem Encoding.eorZeroPage (b : Byte) : Encoding.Statement (.eorZeroPage b) := ⟨rfl, rfl, rfl⟩
theorem Encoding.eorZeroPageX (b : Byte) : Encoding.Statement (.eorZeroPageX b) := ⟨rfl, rfl, rfl⟩
theorem Encoding.eorAbsolute (w : Word) : Encoding.Statement (.eorAbsolute w) := ⟨rfl, rfl, rfl⟩
theorem Encoding.eorAbsoluteX (w : Word) : Encoding.Statement (.eorAbsoluteX w) := ⟨rfl, rfl, rfl⟩
theorem Encoding.eorAbsoluteY (w : Word) : Encoding.Statement (.eorAbsoluteY w) := ⟨rfl, rfl, rfl⟩
theorem Encoding.eorIndirectX (b : Byte) : Encoding.Statement (.eorIndirectX b) := ⟨rfl, rfl, rfl⟩
theorem Encoding.eorIndirectY (b : Byte) : Encoding.Statement (.eorIndirectY b) := ⟨rfl, rfl, rfl⟩
theorem Encoding.cmpImmediate (v : Byte) : Encoding.Statement (.cmpImmediate v) := ⟨rfl, rfl, rfl⟩
theorem Encoding.cmpZeroPage (b : Byte) : Encoding.Statement (.cmpZeroPage b) := ⟨rfl, rfl, rfl⟩
theorem Encoding.cmpZeroPageX (b : Byte) : Encoding.Statement (.cmpZeroPageX b) := ⟨rfl, rfl, rfl⟩
theorem Encoding.cmpAbsolute (w : Word) : Encoding.Statement (.cmpAbsolute w) := ⟨rfl, rfl, rfl⟩
theorem Encoding.cmpAbsoluteX (w : Word) : Encoding.Statement (.cmpAbsoluteX w) := ⟨rfl, rfl, rfl⟩
theorem Encoding.cmpAbsoluteY (w : Word) : Encoding.Statement (.cmpAbsoluteY w) := ⟨rfl, rfl, rfl⟩
theorem Encoding.cmpIndirectX (b : Byte) : Encoding.Statement (.cmpIndirectX b) := ⟨rfl, rfl, rfl⟩
theorem Encoding.cmpIndirectY (b : Byte) : Encoding.Statement (.cmpIndirectY b) := ⟨rfl, rfl, rfl⟩
theorem Encoding.cpxImmediate (v : Byte) : Encoding.Statement (.cpxImmediate v) := ⟨rfl, rfl, rfl⟩
theorem Encoding.cpxZeroPage (b : Byte) : Encoding.Statement (.cpxZeroPage b) := ⟨rfl, rfl, rfl⟩
theorem Encoding.cpxAbsolute (w : Word) : Encoding.Statement (.cpxAbsolute w) := ⟨rfl, rfl, rfl⟩
theorem Encoding.cpyImmediate (v : Byte) : Encoding.Statement (.cpyImmediate v) := ⟨rfl, rfl, rfl⟩
theorem Encoding.cpyZeroPage (b : Byte) : Encoding.Statement (.cpyZeroPage b) := ⟨rfl, rfl, rfl⟩
theorem Encoding.cpyAbsolute (w : Word) : Encoding.Statement (.cpyAbsolute w) := ⟨rfl, rfl, rfl⟩
theorem Encoding.bitZeroPage (b : Byte) : Encoding.Statement (.bitZeroPage b) := ⟨rfl, rfl, rfl⟩
theorem Encoding.bitAbsolute (w : Word) : Encoding.Statement (.bitAbsolute w) := ⟨rfl, rfl, rfl⟩
theorem Encoding.incZeroPage (b : Byte) : Encoding.Statement (.incZeroPage b) := ⟨rfl, rfl, rfl⟩
theorem Encoding.incZeroPageX (b : Byte) : Encoding.Statement (.incZeroPageX b) := ⟨rfl, rfl, rfl⟩
theorem Encoding.incAbsolute (w : Word) : Encoding.Statement (.incAbsolute w) := ⟨rfl, rfl, rfl⟩
theorem Encoding.incAbsoluteX (w : Word) : Encoding.Statement (.incAbsoluteX w) := ⟨rfl, rfl, rfl⟩
theorem Encoding.decZeroPage (b : Byte) : Encoding.Statement (.decZeroPage b) := ⟨rfl, rfl, rfl⟩
theorem Encoding.decZeroPageX (b : Byte) : Encoding.Statement (.decZeroPageX b) := ⟨rfl, rfl, rfl⟩
theorem Encoding.decAbsolute (w : Word) : Encoding.Statement (.decAbsolute w) := ⟨rfl, rfl, rfl⟩
theorem Encoding.decAbsoluteX (w : Word) : Encoding.Statement (.decAbsoluteX w) := ⟨rfl, rfl, rfl⟩
theorem Encoding.inx : Encoding.Statement (.inx) := ⟨rfl, rfl, rfl⟩
theorem Encoding.iny : Encoding.Statement (.iny) := ⟨rfl, rfl, rfl⟩
theorem Encoding.dex : Encoding.Statement (.dex) := ⟨rfl, rfl, rfl⟩
theorem Encoding.dey : Encoding.Statement (.dey) := ⟨rfl, rfl, rfl⟩
theorem Encoding.aslAccumulator : Encoding.Statement (.aslAccumulator) := ⟨rfl, rfl, rfl⟩
theorem Encoding.aslZeroPage (b : Byte) : Encoding.Statement (.aslZeroPage b) := ⟨rfl, rfl, rfl⟩
theorem Encoding.aslZeroPageX (b : Byte) : Encoding.Statement (.aslZeroPageX b) := ⟨rfl, rfl, rfl⟩
theorem Encoding.aslAbsolute (w : Word) : Encoding.Statement (.aslAbsolute w) := ⟨rfl, rfl, rfl⟩
theorem Encoding.aslAbsoluteX (w : Word) : Encoding.Statement (.aslAbsoluteX w) := ⟨rfl, rfl, rfl⟩
theorem Encoding.lsrAccumulator : Encoding.Statement (.lsrAccumulator) := ⟨rfl, rfl, rfl⟩
theorem Encoding.lsrZeroPage (b : Byte) : Encoding.Statement (.lsrZeroPage b) := ⟨rfl, rfl, rfl⟩
theorem Encoding.lsrZeroPageX (b : Byte) : Encoding.Statement (.lsrZeroPageX b) := ⟨rfl, rfl, rfl⟩
theorem Encoding.lsrAbsolute (w : Word) : Encoding.Statement (.lsrAbsolute w) := ⟨rfl, rfl, rfl⟩
theorem Encoding.lsrAbsoluteX (w : Word) : Encoding.Statement (.lsrAbsoluteX w) := ⟨rfl, rfl, rfl⟩
theorem Encoding.rolAccumulator : Encoding.Statement (.rolAccumulator) := ⟨rfl, rfl, rfl⟩
theorem Encoding.rolZeroPage (b : Byte) : Encoding.Statement (.rolZeroPage b) := ⟨rfl, rfl, rfl⟩
theorem Encoding.rolZeroPageX (b : Byte) : Encoding.Statement (.rolZeroPageX b) := ⟨rfl, rfl, rfl⟩
theorem Encoding.rolAbsolute (w : Word) : Encoding.Statement (.rolAbsolute w) := ⟨rfl, rfl, rfl⟩
theorem Encoding.rolAbsoluteX (w : Word) : Encoding.Statement (.rolAbsoluteX w) := ⟨rfl, rfl, rfl⟩
theorem Encoding.rorAccumulator : Encoding.Statement (.rorAccumulator) := ⟨rfl, rfl, rfl⟩
theorem Encoding.rorZeroPage (b : Byte) : Encoding.Statement (.rorZeroPage b) := ⟨rfl, rfl, rfl⟩
theorem Encoding.rorZeroPageX (b : Byte) : Encoding.Statement (.rorZeroPageX b) := ⟨rfl, rfl, rfl⟩
theorem Encoding.rorAbsolute (w : Word) : Encoding.Statement (.rorAbsolute w) := ⟨rfl, rfl, rfl⟩
theorem Encoding.rorAbsoluteX (w : Word) : Encoding.Statement (.rorAbsoluteX w) := ⟨rfl, rfl, rfl⟩
theorem Encoding.clc : Encoding.Statement (.clc) := ⟨rfl, rfl, rfl⟩
theorem Encoding.sec : Encoding.Statement (.sec) := ⟨rfl, rfl, rfl⟩
theorem Encoding.cli : Encoding.Statement (.cli) := ⟨rfl, rfl, rfl⟩
theorem Encoding.sei : Encoding.Statement (.sei) := ⟨rfl, rfl, rfl⟩
theorem Encoding.clv : Encoding.Statement (.clv) := ⟨rfl, rfl, rfl⟩
theorem Encoding.cld : Encoding.Statement (.cld) := ⟨rfl, rfl, rfl⟩
theorem Encoding.sed : Encoding.Statement (.sed) := ⟨rfl, rfl, rfl⟩
theorem Encoding.nop : Encoding.Statement (.nop) := ⟨rfl, rfl, rfl⟩
theorem Encoding.bpl (d : Byte) : Encoding.Statement (.bpl d) := ⟨rfl, rfl, rfl⟩
theorem Encoding.bmi (d : Byte) : Encoding.Statement (.bmi d) := ⟨rfl, rfl, rfl⟩
theorem Encoding.bvc (d : Byte) : Encoding.Statement (.bvc d) := ⟨rfl, rfl, rfl⟩
theorem Encoding.bvs (d : Byte) : Encoding.Statement (.bvs d) := ⟨rfl, rfl, rfl⟩
theorem Encoding.bcc (d : Byte) : Encoding.Statement (.bcc d) := ⟨rfl, rfl, rfl⟩
theorem Encoding.bcs (d : Byte) : Encoding.Statement (.bcs d) := ⟨rfl, rfl, rfl⟩
theorem Encoding.bne (d : Byte) : Encoding.Statement (.bne d) := ⟨rfl, rfl, rfl⟩
theorem Encoding.beq (d : Byte) : Encoding.Statement (.beq d) := ⟨rfl, rfl, rfl⟩
theorem Encoding.jmpAbsolute (w : Word) : Encoding.Statement (.jmpAbsolute w) := ⟨rfl, rfl, rfl⟩
theorem Encoding.jmpIndirect (w : Word) : Encoding.Statement (.jmpIndirect w) := ⟨rfl, rfl, rfl⟩
theorem Encoding.jsr (w : Word) : Encoding.Statement (.jsr w) := ⟨rfl, rfl, rfl⟩
theorem Encoding.rts : Encoding.Statement (.rts) := ⟨rfl, rfl, rfl⟩
theorem Encoding.pha : Encoding.Statement (.pha) := ⟨rfl, rfl, rfl⟩
theorem Encoding.php : Encoding.Statement (.php) := ⟨rfl, rfl, rfl⟩
theorem Encoding.pla : Encoding.Statement (.pla) := ⟨rfl, rfl, rfl⟩
theorem Encoding.plp : Encoding.Statement (.plp) := ⟨rfl, rfl, rfl⟩
theorem Encoding.brk : Encoding.Statement (.brk) := ⟨rfl, rfl, rfl⟩
theorem Encoding.rti : Encoding.Statement (.rti) := ⟨rfl, rfl, rfl⟩

end Sys2Proof.Laws
end

