-- ==== Sys2Proof/Laws/Decode.lean ====
section
/-! SUPPORT. What the table, the decoder and the encoder say about one instruction at a time. -/

namespace Sys2Proof

open Sys2Proof.Machine

/-- The family Encoding holds of every instruction. -/
theorem encoding_holds (i : Instr) : Laws.Encoding.Statement i :=
  match i with
  | .ldaImmediate v => Laws.Encoding.ldaImmediate v
  | .ldaZeroPage b => Laws.Encoding.ldaZeroPage b
  | .ldaZeroPageX b => Laws.Encoding.ldaZeroPageX b
  | .ldaAbsolute w => Laws.Encoding.ldaAbsolute w
  | .ldaAbsoluteX w => Laws.Encoding.ldaAbsoluteX w
  | .ldaAbsoluteY w => Laws.Encoding.ldaAbsoluteY w
  | .ldaIndirectX b => Laws.Encoding.ldaIndirectX b
  | .ldaIndirectY b => Laws.Encoding.ldaIndirectY b
  | .ldxImmediate v => Laws.Encoding.ldxImmediate v
  | .ldxZeroPage b => Laws.Encoding.ldxZeroPage b
  | .ldxZeroPageY b => Laws.Encoding.ldxZeroPageY b
  | .ldxAbsolute w => Laws.Encoding.ldxAbsolute w
  | .ldxAbsoluteY w => Laws.Encoding.ldxAbsoluteY w
  | .ldyImmediate v => Laws.Encoding.ldyImmediate v
  | .ldyZeroPage b => Laws.Encoding.ldyZeroPage b
  | .ldyZeroPageX b => Laws.Encoding.ldyZeroPageX b
  | .ldyAbsolute w => Laws.Encoding.ldyAbsolute w
  | .ldyAbsoluteX w => Laws.Encoding.ldyAbsoluteX w
  | .staZeroPage b => Laws.Encoding.staZeroPage b
  | .staZeroPageX b => Laws.Encoding.staZeroPageX b
  | .staAbsolute w => Laws.Encoding.staAbsolute w
  | .staAbsoluteX w => Laws.Encoding.staAbsoluteX w
  | .staAbsoluteY w => Laws.Encoding.staAbsoluteY w
  | .staIndirectX b => Laws.Encoding.staIndirectX b
  | .staIndirectY b => Laws.Encoding.staIndirectY b
  | .stxZeroPage b => Laws.Encoding.stxZeroPage b
  | .stxZeroPageY b => Laws.Encoding.stxZeroPageY b
  | .stxAbsolute w => Laws.Encoding.stxAbsolute w
  | .styZeroPage b => Laws.Encoding.styZeroPage b
  | .styZeroPageX b => Laws.Encoding.styZeroPageX b
  | .styAbsolute w => Laws.Encoding.styAbsolute w
  | .tax => Laws.Encoding.tax
  | .tay => Laws.Encoding.tay
  | .txa => Laws.Encoding.txa
  | .tya => Laws.Encoding.tya
  | .tsx => Laws.Encoding.tsx
  | .txs => Laws.Encoding.txs
  | .adcImmediate v => Laws.Encoding.adcImmediate v
  | .adcZeroPage b => Laws.Encoding.adcZeroPage b
  | .adcZeroPageX b => Laws.Encoding.adcZeroPageX b
  | .adcAbsolute w => Laws.Encoding.adcAbsolute w
  | .adcAbsoluteX w => Laws.Encoding.adcAbsoluteX w
  | .adcAbsoluteY w => Laws.Encoding.adcAbsoluteY w
  | .adcIndirectX b => Laws.Encoding.adcIndirectX b
  | .adcIndirectY b => Laws.Encoding.adcIndirectY b
  | .sbcImmediate v => Laws.Encoding.sbcImmediate v
  | .sbcZeroPage b => Laws.Encoding.sbcZeroPage b
  | .sbcZeroPageX b => Laws.Encoding.sbcZeroPageX b
  | .sbcAbsolute w => Laws.Encoding.sbcAbsolute w
  | .sbcAbsoluteX w => Laws.Encoding.sbcAbsoluteX w
  | .sbcAbsoluteY w => Laws.Encoding.sbcAbsoluteY w
  | .sbcIndirectX b => Laws.Encoding.sbcIndirectX b
  | .sbcIndirectY b => Laws.Encoding.sbcIndirectY b
  | .andImmediate v => Laws.Encoding.andImmediate v
  | .andZeroPage b => Laws.Encoding.andZeroPage b
  | .andZeroPageX b => Laws.Encoding.andZeroPageX b
  | .andAbsolute w => Laws.Encoding.andAbsolute w
  | .andAbsoluteX w => Laws.Encoding.andAbsoluteX w
  | .andAbsoluteY w => Laws.Encoding.andAbsoluteY w
  | .andIndirectX b => Laws.Encoding.andIndirectX b
  | .andIndirectY b => Laws.Encoding.andIndirectY b
  | .oraImmediate v => Laws.Encoding.oraImmediate v
  | .oraZeroPage b => Laws.Encoding.oraZeroPage b
  | .oraZeroPageX b => Laws.Encoding.oraZeroPageX b
  | .oraAbsolute w => Laws.Encoding.oraAbsolute w
  | .oraAbsoluteX w => Laws.Encoding.oraAbsoluteX w
  | .oraAbsoluteY w => Laws.Encoding.oraAbsoluteY w
  | .oraIndirectX b => Laws.Encoding.oraIndirectX b
  | .oraIndirectY b => Laws.Encoding.oraIndirectY b
  | .eorImmediate v => Laws.Encoding.eorImmediate v
  | .eorZeroPage b => Laws.Encoding.eorZeroPage b
  | .eorZeroPageX b => Laws.Encoding.eorZeroPageX b
  | .eorAbsolute w => Laws.Encoding.eorAbsolute w
  | .eorAbsoluteX w => Laws.Encoding.eorAbsoluteX w
  | .eorAbsoluteY w => Laws.Encoding.eorAbsoluteY w
  | .eorIndirectX b => Laws.Encoding.eorIndirectX b
  | .eorIndirectY b => Laws.Encoding.eorIndirectY b
  | .cmpImmediate v => Laws.Encoding.cmpImmediate v
  | .cmpZeroPage b => Laws.Encoding.cmpZeroPage b
  | .cmpZeroPageX b => Laws.Encoding.cmpZeroPageX b
  | .cmpAbsolute w => Laws.Encoding.cmpAbsolute w
  | .cmpAbsoluteX w => Laws.Encoding.cmpAbsoluteX w
  | .cmpAbsoluteY w => Laws.Encoding.cmpAbsoluteY w
  | .cmpIndirectX b => Laws.Encoding.cmpIndirectX b
  | .cmpIndirectY b => Laws.Encoding.cmpIndirectY b
  | .cpxImmediate v => Laws.Encoding.cpxImmediate v
  | .cpxZeroPage b => Laws.Encoding.cpxZeroPage b
  | .cpxAbsolute w => Laws.Encoding.cpxAbsolute w
  | .cpyImmediate v => Laws.Encoding.cpyImmediate v
  | .cpyZeroPage b => Laws.Encoding.cpyZeroPage b
  | .cpyAbsolute w => Laws.Encoding.cpyAbsolute w
  | .bitZeroPage b => Laws.Encoding.bitZeroPage b
  | .bitAbsolute w => Laws.Encoding.bitAbsolute w
  | .incZeroPage b => Laws.Encoding.incZeroPage b
  | .incZeroPageX b => Laws.Encoding.incZeroPageX b
  | .incAbsolute w => Laws.Encoding.incAbsolute w
  | .incAbsoluteX w => Laws.Encoding.incAbsoluteX w
  | .decZeroPage b => Laws.Encoding.decZeroPage b
  | .decZeroPageX b => Laws.Encoding.decZeroPageX b
  | .decAbsolute w => Laws.Encoding.decAbsolute w
  | .decAbsoluteX w => Laws.Encoding.decAbsoluteX w
  | .inx => Laws.Encoding.inx
  | .iny => Laws.Encoding.iny
  | .dex => Laws.Encoding.dex
  | .dey => Laws.Encoding.dey
  | .aslAccumulator => Laws.Encoding.aslAccumulator
  | .aslZeroPage b => Laws.Encoding.aslZeroPage b
  | .aslZeroPageX b => Laws.Encoding.aslZeroPageX b
  | .aslAbsolute w => Laws.Encoding.aslAbsolute w
  | .aslAbsoluteX w => Laws.Encoding.aslAbsoluteX w
  | .lsrAccumulator => Laws.Encoding.lsrAccumulator
  | .lsrZeroPage b => Laws.Encoding.lsrZeroPage b
  | .lsrZeroPageX b => Laws.Encoding.lsrZeroPageX b
  | .lsrAbsolute w => Laws.Encoding.lsrAbsolute w
  | .lsrAbsoluteX w => Laws.Encoding.lsrAbsoluteX w
  | .rolAccumulator => Laws.Encoding.rolAccumulator
  | .rolZeroPage b => Laws.Encoding.rolZeroPage b
  | .rolZeroPageX b => Laws.Encoding.rolZeroPageX b
  | .rolAbsolute w => Laws.Encoding.rolAbsolute w
  | .rolAbsoluteX w => Laws.Encoding.rolAbsoluteX w
  | .rorAccumulator => Laws.Encoding.rorAccumulator
  | .rorZeroPage b => Laws.Encoding.rorZeroPage b
  | .rorZeroPageX b => Laws.Encoding.rorZeroPageX b
  | .rorAbsolute w => Laws.Encoding.rorAbsolute w
  | .rorAbsoluteX w => Laws.Encoding.rorAbsoluteX w
  | .clc => Laws.Encoding.clc
  | .sec => Laws.Encoding.sec
  | .cli => Laws.Encoding.cli
  | .sei => Laws.Encoding.sei
  | .clv => Laws.Encoding.clv
  | .cld => Laws.Encoding.cld
  | .sed => Laws.Encoding.sed
  | .nop => Laws.Encoding.nop
  | .bpl d => Laws.Encoding.bpl d
  | .bmi d => Laws.Encoding.bmi d
  | .bvc d => Laws.Encoding.bvc d
  | .bvs d => Laws.Encoding.bvs d
  | .bcc d => Laws.Encoding.bcc d
  | .bcs d => Laws.Encoding.bcs d
  | .bne d => Laws.Encoding.bne d
  | .beq d => Laws.Encoding.beq d
  | .jmpAbsolute w => Laws.Encoding.jmpAbsolute w
  | .jmpIndirect w => Laws.Encoding.jmpIndirect w
  | .jsr w => Laws.Encoding.jsr w
  | .rts => Laws.Encoding.rts
  | .pha => Laws.Encoding.pha
  | .php => Laws.Encoding.php
  | .pla => Laws.Encoding.pla
  | .plp => Laws.Encoding.plp
  | .brk => Laws.Encoding.brk
  | .rti => Laws.Encoding.rti

/-- An instruction is what its operation and its operand assemble to. -/
theorem assemble_operand (i : Instr) : assemble i.mnemonic i.operand = some i := by cases i <;> rfl

/-- What assembles to an instruction is its operation and its operand. -/
theorem assemble_eq_some {op : Mnemonic} {o : Operand} {i : Instr} (h : assemble op o = some i) :
    i.mnemonic = op ∧ i.operand = o := by
  cases op <;> simp only [assemble] at h <;> split at h <;>
    first
    | (obtain rfl := Option.some.inj h; exact ⟨rfl, rfl⟩)
    | cases h

/-- The table's entry of an instruction's opcode has its operation and mode. -/
theorem opcodeEntry_opcode (i : Instr) :
    ∃ e, opcodeEntry i.opcode = some e ∧ e.op = i.mnemonic ∧ e.mode = i.operand.mode := by
  obtain ⟨e, he, h⟩ := Option.map_eq_some_iff.mp (encoding_holds i).2.2
  exact ⟨e, he, congrArg Prod.fst h, congrArg Prod.snd h⟩

theorem decodeOpcode_opcode (i : Instr) (b1 b2 : Byte) :
    decodeOpcode i.opcode b1 b2 = assemble i.mnemonic (operandOf i.operand.mode b1 b2) := by
  obtain ⟨e, he, hop, hm⟩ := opcodeEntry_opcode i
  simp only [decodeOpcode, he, hop, hm]

/-- No two rows of the table have one opcode. -/
theorem opcodeRows_opcodes_nodup : (opcodeRows.map (fun r => r.1.toNat)).Nodup := by decide +kernel

/-- No two rows of the table have one operation and one mode. -/
theorem opcodeRows_forms_nodup : (opcodeRows.map (fun r => (r.2.op, r.2.mode))).Nodup := by decide +kernel

theorem opcodeEntry_mem {b : Byte} {e : Entry} (h : opcodeEntry b = some e) : (b, e) ∈ opcodeRows := by
  unfold opcodeEntry at h
  obtain ⟨r, hr, rfl⟩ := Option.map_eq_some_iff.mp h
  have hb : r.1 = b := by simpa using List.find?_some hr
  rw [← hb]
  exact List.mem_of_find?_eq_some hr

/-- The row of an operation and a mode has the opcode of every instruction of that operation and mode. -/
theorem opcode_of_entry {b : Byte} {e : Entry} (h : opcodeEntry b = some e) {i : Instr} (hop : i.mnemonic = e.op)
    (hm : i.operand.mode = e.mode) : i.opcode = b := by
  obtain ⟨e', he', hop', hm'⟩ := opcodeEntry_opcode i
  have key := List.inj_on_of_nodup_map opcodeRows_forms_nodup (opcodeEntry_mem h) (opcodeEntry_mem he')
    (by simp [hop', hm', hop, hm])
  exact (congrArg Prod.fst key).symm

theorem operandOf_mode (m : Mode) (b1 b2 : Byte) : (operandOf m b1 b2).mode = m := by cases m <;> rfl

/-- Every row of the table assembles to an instruction, whatever the operand bytes. -/
theorem entry_assembles {b : Byte} {e : Entry} (h : opcodeEntry b = some e) (b1 b2 : Byte) :
    ∃ i, assemble e.op (operandOf e.mode b1 b2) = some i := by
  have rows : ∀ r ∈ opcodeRows, (assemble r.2.op (operandOf r.2.mode 0 0)).isSome = true := by decide +kernel
  have any : ∀ (op : Mnemonic) (m : Mode), (assemble op (operandOf m 0 0)).isSome = true →
      (assemble op (operandOf m b1 b2)).isSome = true := by
    intro op m hs
    cases op <;> cases m <;> first | rfl | cases hs
  exact Option.isSome_iff_exists.mp (any _ _ (rows _ (opcodeEntry_mem h)))

/-- An opcode decodes exactly when it has an entry, whatever follows it. -/
theorem decodeOpcode_eq_none {b0 b1 b2 : Byte} : decodeOpcode b0 b1 b2 = none ↔ opcodeEntry b0 = none := by
  unfold decodeOpcode
  cases h : opcodeEntry b0 with
  | none => simp
  | some e =>
    obtain ⟨i, hi⟩ := entry_assembles h b1 b2
    simp [hi]

/-- A decoded instruction has the opcode it was decoded from, and the operand that its mode makes of the bytes after. -/
theorem decodeOpcode_eq_some {b0 b1 b2 : Byte} {i : Instr} (h : decodeOpcode b0 b1 b2 = some i) :
    i.opcode = b0 ∧ i.operand = operandOf i.operand.mode b1 b2 := by
  unfold decodeOpcode at h
  split at h
  · cases h
  · next e he =>
    obtain ⟨hop, ho⟩ := assemble_eq_some h
    have hm : i.operand.mode = e.mode := by rw [ho, operandOf_mode]
    exact ⟨opcode_of_entry he hop hm, by rw [hm]; exact ho⟩

end Sys2Proof
end

