-- ==== Sys2Proof/Laws/Ops.lean ====
section
/-! SUPPORT. What the shared operations do, said once: the stack, entering a handler, and the canonical form that they keep. -/

namespace Sys2Proof.Machine

/-- Offsets into the stack page that differ are different addresses. -/
theorem stackAddr_ne {p x y : Byte} (h : x ≠ y) : w16 p x ≠ w16 p y := fun e => h (w16_inj.mp e).2

theorem byte_sub_one_ne (x : Byte) : x - 1 ≠ x := by bv_omega

theorem byte_sub_two_ne (x : Byte) : x - 1 - 1 ≠ x := by bv_omega

theorem byte_sub_one_add_one (x : Byte) : x - 1 + 1 = x := by bv_omega

theorem byte_sub_one_sub_one (x : Byte) : x - 1 - 1 = x - 2 := by bv_omega

theorem byte_sub_two_sub_one (x : Byte) : x - 2 - 1 = x - 3 := by bv_omega

theorem byte_add_one_add_one (x : Byte) : x + 1 + 1 = x + 2 := by bv_omega

theorem byte_add_two_add_one (x : Byte) : x + 2 + 1 = x + 3 := by bv_omega

/-- The byte pushed stands at the old stack address (R230). -/
@[simp] theorem State.read_push_same (s : State) (v : Byte) : (s.push v).read s.stackAddr = v :=
  Memory.read_write_same _ _ _

/-- Every other address reads as before a push (R230). -/
theorem State.read_push_other (s : State) (v : Byte) {a : Word} (h : a ≠ s.stackAddr) :
    (s.push v).read a = s.read a := Memory.read_write_other _ _ h

/-- Pulling right after a push yields the byte pushed (R230, R231). -/
@[simp] theorem State.top_push (s : State) (v : Byte) : (s.push v).top = v := by
  show ((s.mem.write (w16 s.cfg.stackPage s.sp) v).read (w16 s.cfg.stackPage (s.sp - 1 + 1))) = v
  rw [byte_sub_one_add_one]
  exact Memory.read_write_same _ _ _

/-- What the three pushes of an entry leave at the three stack addresses, and elsewhere (R237, R256). -/
theorem State.pushFrame_reads (s : State) (brk : Bool) (ret : Word) :
    (s.pushFrame brk ret).read (w16 s.cfg.stackPage s.sp) = hi ret ∧
      (s.pushFrame brk ret).read (w16 s.cfg.stackPage (s.sp - 1)) = lo ret ∧
      (s.pushFrame brk ret).read (w16 s.cfg.stackPage (s.sp - 2)) = s.p.status brk ∧
      ∀ a : Word, a ≠ w16 s.cfg.stackPage s.sp → a ≠ w16 s.cfg.stackPage (s.sp - 1) →
        a ≠ w16 s.cfg.stackPage (s.sp - 2) → (s.pushFrame brk ret).read a = s.read a := by
  have e : s.pushFrame brk ret = ((s.push (hi ret)).push (lo ret)).push (s.p.status brk) := rfl
  have a0 : s.stackAddr = w16 s.cfg.stackPage s.sp := rfl
  have a1 : (s.push (hi ret)).stackAddr = w16 s.cfg.stackPage (s.sp - 1) := rfl
  have a2 : ((s.push (hi ret)).push (lo ret)).stackAddr = w16 s.cfg.stackPage (s.sp - 2) := by
    rw [State.stackAddr_push, State.push_cfg, State.push_sp, byte_sub_one_sub_one]
  have n01 : s.sp ≠ s.sp - 1 := by bv_omega
  have n02 : s.sp ≠ s.sp - 2 := by bv_omega
  have n12 : s.sp - 1 ≠ s.sp - 2 := by bv_omega
  refine ⟨?_, ?_, ?_, fun a h0 h1 h2 => ?_⟩
  · rw [e, State.read_push_other _ _ (by rw [a2]; exact stackAddr_ne n02),
      State.read_push_other _ _ (by rw [a1]; exact stackAddr_ne n01), ← a0, State.read_push_same]
  · rw [e, State.read_push_other _ _ (by rw [a2]; exact stackAddr_ne n12), ← a1, State.read_push_same]
  · rw [e, ← a2, State.read_push_same]
  · rw [e, State.read_push_other _ _ (by rw [a2]; exact h2), State.read_push_other _ _ (by rw [a1]; exact h1),
      State.read_push_other _ _ (by rw [a0]; exact h0)]

theorem State.push_wf {s : State} (h : s.mem.wf) (v : Byte) : (s.push v).mem.wf := Memory.write_wf h _ _

theorem State.write_wf {s : State} (h : s.mem.wf) (a : Word) (v : Byte) : (s.write a v).mem.wf :=
  Memory.write_wf h _ _

theorem State.pushFrame_wf {s : State} (h : s.mem.wf) (brk : Bool) (ret : Word) : (s.pushFrame brk ret).mem.wf :=
  State.push_wf (State.push_wf (State.push_wf h _) _) _

theorem enterHandler_wf {s : State} (h : s.mem.wf) (brk : Bool) (ret vec : Word) :
    (enterHandler brk ret vec s).mem.wf := State.pushFrame_wf h _ _

/-- What the interrupt check can decide of a step boundary: which vector, and what becomes of the requests (R252-R254). -/
theorem interruptCheck_cases (s : State) :
    (s.nmiPending = true ∧ interruptCheck s = .service nmiVector { s with nmiPending := false }) ∨
    (s.nmiPending = false ∧ s.irqPending = true ∧ s.p.i = false ∧
      interruptCheck s = .service irqVector { s with irqPending := false }) ∨
    (s.nmiPending = false ∧ (s.irqPending = true → s.p.i = true) ∧
      interruptCheck s = .proceed { s with irqPending := s.irqPending && !s.cfg.irqMaskedDiscard }) := by
  obtain ⟨_, _, _, _, _, ⟨_, _, i, _, _, _⟩, irq, nmi, _, _, ⟨_, discard, _, _, _, _⟩⟩ := s
  cases nmi <;> cases irq <;> cases i <;> cases discard <;> simp [interruptCheck]

end Sys2Proof.Machine
end

