-- ==== Sys2Proof/Laws/Exec.lean ====
section
/-! SUPPORT. What each shape of instruction does, said once, and the canonical form that every instruction keeps. -/

namespace Sys2Proof.Machine

/-- A read: the operation runs on the byte at ea, with PC past the instruction. -/
@[simp] theorem readForm_eq (op : Byte → State → State) (r : MemRef) (s : State) :
    readForm op r s = .next (op (s.read (r.ea s)) (s.past r.mode)) := rfl

/-- An Immediate instruction: the same on the value. -/
@[simp] theorem immediateForm_eq (op : Byte → State → State) (v : Byte) (s : State) :
    immediateForm op v s = .next (op v (s.past .immediate)) := rfl

/-- A store changes PC and the byte at ea, and nothing else. -/
@[simp] theorem storeForm_eq (val : State → Byte) (r : MemRef) (s : State) :
    storeForm val r s =
      .next { s with pc := s.pc + BitVec.ofNat 16 r.mode.length, mem := s.mem.write (r.ea s) (val s) } := rfl

/-- A read-modify-write changes PC, the flags and the byte at ea, and nothing else. -/
@[simp] theorem modifyForm_eq (f : Byte → Flags → Byte × Flags) (r : MemRef) (s : State) :
    modifyForm f r s = .next { s with
      pc := s.pc + BitVec.ofNat 16 r.mode.length
      mem := s.mem.write (r.ea s) (f (s.read (r.ea s)) s.p).1
      p := (f (s.read (r.ea s)) s.p).2 } := rfl

/-- On the accumulator: PC, A and the flags. -/
@[simp] theorem accumulatorForm_eq (f : Byte → Flags → Byte × Flags) (s : State) :
    accumulatorForm f s = .next { s with pc := s.pc + 1, a := (f s.a s.p).1, p := (f s.a s.p).2 } := rfl

/-- A branch changes PC alone. -/
@[simp] theorem branchForm_eq (cond : Flags → Bool) (d : Byte) (s : State) :
    branchForm cond d s = .next { s with pc := if cond s.p then branchTarget d s else s.pc + 2 } := rfl

/-- An Implied instruction: its operation runs with PC past the opcode. -/
@[simp] theorem impliedForm_eq (op : State → State) (s : State) :
    impliedForm op s = .next (op (s.past .implied)) := rfl

/-- A jump changes PC alone. -/
@[simp] theorem jumpForm_eq (r : MemRef) (s : State) : jumpForm r s = .next { s with pc := r.ea s } := rfl

/-- An effective address depends on X, Y, the memory and the parameters alone (R88-R96). -/
theorem ea_congr (r : MemRef) {s t : State} (hx : t.x = s.x) (hy : t.y = s.y) (hm : t.mem = s.mem)
    (hc : t.cfg = s.cfg) : r.ea t = r.ea s := by
  cases r <;> simp only [MemRef.ea, State.read16zp, State.read, pointerHighAddr, hx, hy, hm, hc]

theorem immediateForm_wf {op : Byte → State → State} {v : Byte} {s t : State} (hop : ∀ v u, (op v u).mem = u.mem)
    (h : immediateForm op v s = .next t) (hw : s.mem.wf) : t.mem.wf := by
  cases h; rw [hop]; exact hw

theorem readForm_wf {op : Byte → State → State} {r : MemRef} {s t : State} (hop : ∀ v u, (op v u).mem = u.mem)
    (h : readForm op r s = .next t) (hw : s.mem.wf) : t.mem.wf := by
  cases h; rw [hop]; exact hw

theorem storeForm_wf {val : State → Byte} {r : MemRef} {s t : State} (h : storeForm val r s = .next t)
    (hw : s.mem.wf) : t.mem.wf := by
  cases h; exact Memory.write_wf hw _ _

theorem modifyForm_wf {f : Byte → Flags → Byte × Flags} {r : MemRef} {s t : State} (h : modifyForm f r s = .next t)
    (hw : s.mem.wf) : t.mem.wf := by
  cases h; exact Memory.write_wf hw _ _

theorem accumulatorForm_wf {f : Byte → Flags → Byte × Flags} {s t : State} (h : accumulatorForm f s = .next t)
    (hw : s.mem.wf) : t.mem.wf := by
  cases h; exact hw

theorem branchForm_wf {cond : Flags → Bool} {d : Byte} {s t : State} (h : branchForm cond d s = .next t)
    (hw : s.mem.wf) : t.mem.wf := by
  cases h; exact hw

theorem jumpForm_wf {r : MemRef} {s t : State} (h : jumpForm r s = .next t) (hw : s.mem.wf) : t.mem.wf := by
  cases h; exact hw

theorem jsr_wf {w : Word} {s t : State} (h : execJsr w s = .next t) (hw : s.mem.wf) : t.mem.wf := by
  cases h; exact State.push_wf (State.push_wf (s := s.advance 3) hw _) _

theorem impliedForm_wf {op : State → State} {s t : State}
    (hop : (s.past .implied).mem.wf → (op (s.past .implied)).mem.wf) (h : impliedForm op s = .next t)
    (hw : s.mem.wf) : t.mem.wf := by
  cases h; exact hop hw

/-- Every instruction keeps memory in canonical form. -/
theorem exec_wf {i : Instr} {s t : State} (h : exec i s = .next t) (hw : s.mem.wf) : t.mem.wf :=
  match i, h with
  | .ldaImmediate v, h => immediateForm_wf (op := ldaOp) (v := v) (fun _ _ => rfl) h hw
  | .ldaZeroPage b, h => readForm_wf (op := ldaOp) (r := .zeroPage b) (fun _ _ => rfl) h hw
  | .ldaZeroPageX b, h => readForm_wf (op := ldaOp) (r := .zeroPageX b) (fun _ _ => rfl) h hw
  | .ldaAbsolute w, h => readForm_wf (op := ldaOp) (r := .absolute w) (fun _ _ => rfl) h hw
  | .ldaAbsoluteX w, h => readForm_wf (op := ldaOp) (r := .absoluteX w) (fun _ _ => rfl) h hw
  | .ldaAbsoluteY w, h => readForm_wf (op := ldaOp) (r := .absoluteY w) (fun _ _ => rfl) h hw
  | .ldaIndirectX b, h => readForm_wf (op := ldaOp) (r := .indirectX b) (fun _ _ => rfl) h hw
  | .ldaIndirectY b, h => readForm_wf (op := ldaOp) (r := .indirectY b) (fun _ _ => rfl) h hw
  | .ldxImmediate v, h => immediateForm_wf (op := ldxOp) (v := v) (fun _ _ => rfl) h hw
  | .ldxZeroPage b, h => readForm_wf (op := ldxOp) (r := .zeroPage b) (fun _ _ => rfl) h hw
  | .ldxZeroPageY b, h => readForm_wf (op := ldxOp) (r := .zeroPageY b) (fun _ _ => rfl) h hw
  | .ldxAbsolute w, h => readForm_wf (op := ldxOp) (r := .absolute w) (fun _ _ => rfl) h hw
  | .ldxAbsoluteY w, h => readForm_wf (op := ldxOp) (r := .absoluteY w) (fun _ _ => rfl) h hw
  | .ldyImmediate v, h => immediateForm_wf (op := ldyOp) (v := v) (fun _ _ => rfl) h hw
  | .ldyZeroPage b, h => readForm_wf (op := ldyOp) (r := .zeroPage b) (fun _ _ => rfl) h hw
  | .ldyZeroPageX b, h => readForm_wf (op := ldyOp) (r := .zeroPageX b) (fun _ _ => rfl) h hw
  | .ldyAbsolute w, h => readForm_wf (op := ldyOp) (r := .absolute w) (fun _ _ => rfl) h hw
  | .ldyAbsoluteX w, h => readForm_wf (op := ldyOp) (r := .absoluteX w) (fun _ _ => rfl) h hw
  | .staZeroPage b, h => storeForm_wf (val := (·.a)) (r := .zeroPage b) h hw
  | .staZeroPageX b, h => storeForm_wf (val := (·.a)) (r := .zeroPageX b) h hw
  | .staAbsolute w, h => storeForm_wf (val := (·.a)) (r := .absolute w) h hw
  | .staAbsoluteX w, h => storeForm_wf (val := (·.a)) (r := .absoluteX w) h hw
  | .staAbsoluteY w, h => storeForm_wf (val := (·.a)) (r := .absoluteY w) h hw
  | .staIndirectX b, h => storeForm_wf (val := (·.a)) (r := .indirectX b) h hw
  | .staIndirectY b, h => storeForm_wf (val := (·.a)) (r := .indirectY b) h hw
  | .stxZeroPage b, h => storeForm_wf (val := (·.x)) (r := .zeroPage b) h hw
  | .stxZeroPageY b, h => storeForm_wf (val := (·.x)) (r := .zeroPageY b) h hw
  | .stxAbsolute w, h => storeForm_wf (val := (·.x)) (r := .absolute w) h hw
  | .styZeroPage b, h => storeForm_wf (val := (·.y)) (r := .zeroPage b) h hw
  | .styZeroPageX b, h => storeForm_wf (val := (·.y)) (r := .zeroPageX b) h hw
  | .styAbsolute w, h => storeForm_wf (val := (·.y)) (r := .absolute w) h hw
  | .tax, h => impliedForm_wf (op := taxOp) (id) h hw
  | .tay, h => impliedForm_wf (op := tayOp) (id) h hw
  | .txa, h => impliedForm_wf (op := txaOp) (id) h hw
  | .tya, h => impliedForm_wf (op := tyaOp) (id) h hw
  | .tsx, h => impliedForm_wf (op := tsxOp) (id) h hw
  | .txs, h => impliedForm_wf (op := txsOp) (id) h hw
  | .adcImmediate v, h => immediateForm_wf (op := adcOp) (v := v) (fun _ _ => rfl) h hw
  | .adcZeroPage b, h => readForm_wf (op := adcOp) (r := .zeroPage b) (fun _ _ => rfl) h hw
  | .adcZeroPageX b, h => readForm_wf (op := adcOp) (r := .zeroPageX b) (fun _ _ => rfl) h hw
  | .adcAbsolute w, h => readForm_wf (op := adcOp) (r := .absolute w) (fun _ _ => rfl) h hw
  | .adcAbsoluteX w, h => readForm_wf (op := adcOp) (r := .absoluteX w) (fun _ _ => rfl) h hw
  | .adcAbsoluteY w, h => readForm_wf (op := adcOp) (r := .absoluteY w) (fun _ _ => rfl) h hw
  | .adcIndirectX b, h => readForm_wf (op := adcOp) (r := .indirectX b) (fun _ _ => rfl) h hw
  | .adcIndirectY b, h => readForm_wf (op := adcOp) (r := .indirectY b) (fun _ _ => rfl) h hw
  | .sbcImmediate v, h => immediateForm_wf (op := sbcOp) (v := v) (fun _ _ => rfl) h hw
  | .sbcZeroPage b, h => readForm_wf (op := sbcOp) (r := .zeroPage b) (fun _ _ => rfl) h hw
  | .sbcZeroPageX b, h => readForm_wf (op := sbcOp) (r := .zeroPageX b) (fun _ _ => rfl) h hw
  | .sbcAbsolute w, h => readForm_wf (op := sbcOp) (r := .absolute w) (fun _ _ => rfl) h hw
  | .sbcAbsoluteX w, h => readForm_wf (op := sbcOp) (r := .absoluteX w) (fun _ _ => rfl) h hw
  | .sbcAbsoluteY w, h => readForm_wf (op := sbcOp) (r := .absoluteY w) (fun _ _ => rfl) h hw
  | .sbcIndirectX b, h => readForm_wf (op := sbcOp) (r := .indirectX b) (fun _ _ => rfl) h hw
  | .sbcIndirectY b, h => readForm_wf (op := sbcOp) (r := .indirectY b) (fun _ _ => rfl) h hw
  | .andImmediate v, h => immediateForm_wf (op := andOp) (v := v) (fun _ _ => rfl) h hw
  | .andZeroPage b, h => readForm_wf (op := andOp) (r := .zeroPage b) (fun _ _ => rfl) h hw
  | .andZeroPageX b, h => readForm_wf (op := andOp) (r := .zeroPageX b) (fun _ _ => rfl) h hw
  | .andAbsolute w, h => readForm_wf (op := andOp) (r := .absolute w) (fun _ _ => rfl) h hw
  | .andAbsoluteX w, h => readForm_wf (op := andOp) (r := .absoluteX w) (fun _ _ => rfl) h hw
  | .andAbsoluteY w, h => readForm_wf (op := andOp) (r := .absoluteY w) (fun _ _ => rfl) h hw
  | .andIndirectX b, h => readForm_wf (op := andOp) (r := .indirectX b) (fun _ _ => rfl) h hw
  | .andIndirectY b, h => readForm_wf (op := andOp) (r := .indirectY b) (fun _ _ => rfl) h hw
  | .oraImmediate v, h => immediateForm_wf (op := oraOp) (v := v) (fun _ _ => rfl) h hw
  | .oraZeroPage b, h => readForm_wf (op := oraOp) (r := .zeroPage b) (fun _ _ => rfl) h hw
  | .oraZeroPageX b, h => readForm_wf (op := oraOp) (r := .zeroPageX b) (fun _ _ => rfl) h hw
  | .oraAbsolute w, h => readForm_wf (op := oraOp) (r := .absolute w) (fun _ _ => rfl) h hw
  | .oraAbsoluteX w, h => readForm_wf (op := oraOp) (r := .absoluteX w) (fun _ _ => rfl) h hw
  | .oraAbsoluteY w, h => readForm_wf (op := oraOp) (r := .absoluteY w) (fun _ _ => rfl) h hw
  | .oraIndirectX b, h => readForm_wf (op := oraOp) (r := .indirectX b) (fun _ _ => rfl) h hw
  | .oraIndirectY b, h => readForm_wf (op := oraOp) (r := .indirectY b) (fun _ _ => rfl) h hw
  | .eorImmediate v, h => immediateForm_wf (op := eorOp) (v := v) (fun _ _ => rfl) h hw
  | .eorZeroPage b, h => readForm_wf (op := eorOp) (r := .zeroPage b) (fun _ _ => rfl) h hw
  | .eorZeroPageX b, h => readForm_wf (op := eorOp) (r := .zeroPageX b) (fun _ _ => rfl) h hw
  | .eorAbsolute w, h => readForm_wf (op := eorOp) (r := .absolute w) (fun _ _ => rfl) h hw
  | .eorAbsoluteX w, h => readForm_wf (op := eorOp) (r := .absoluteX w) (fun _ _ => rfl) h hw
  | .eorAbsoluteY w, h => readForm_wf (op := eorOp) (r := .absoluteY w) (fun _ _ => rfl) h hw
  | .eorIndirectX b, h => readForm_wf (op := eorOp) (r := .indirectX b) (fun _ _ => rfl) h hw
  | .eorIndirectY b, h => readForm_wf (op := eorOp) (r := .indirectY b) (fun _ _ => rfl) h hw
  | .cmpImmediate v, h => immediateForm_wf (op := cmpOp) (v := v) (fun _ _ => rfl) h hw
  | .cmpZeroPage b, h => readForm_wf (op := cmpOp) (r := .zeroPage b) (fun _ _ => rfl) h hw
  | .cmpZeroPageX b, h => readForm_wf (op := cmpOp) (r := .zeroPageX b) (fun _ _ => rfl) h hw
  | .cmpAbsolute w, h => readForm_wf (op := cmpOp) (r := .absolute w) (fun _ _ => rfl) h hw
  | .cmpAbsoluteX w, h => readForm_wf (op := cmpOp) (r := .absoluteX w) (fun _ _ => rfl) h hw
  | .cmpAbsoluteY w, h => readForm_wf (op := cmpOp) (r := .absoluteY w) (fun _ _ => rfl) h hw
  | .cmpIndirectX b, h => readForm_wf (op := cmpOp) (r := .indirectX b) (fun _ _ => rfl) h hw
  | .cmpIndirectY b, h => readForm_wf (op := cmpOp) (r := .indirectY b) (fun _ _ => rfl) h hw
  | .cpxImmediate v, h => immediateForm_wf (op := cpxOp) (v := v) (fun _ _ => rfl) h hw
  | .cpxZeroPage b, h => readForm_wf (op := cpxOp) (r := .zeroPage b) (fun _ _ => rfl) h hw
  | .cpxAbsolute w, h => readForm_wf (op := cpxOp) (r := .absolute w) (fun _ _ => rfl) h hw
  | .cpyImmediate v, h => immediateForm_wf (op := cpyOp) (v := v) (fun _ _ => rfl) h hw
  | .cpyZeroPage b, h => readForm_wf (op := cpyOp) (r := .zeroPage b) (fun _ _ => rfl) h hw
  | .cpyAbsolute w, h => readForm_wf (op := cpyOp) (r := .absolute w) (fun _ _ => rfl) h hw
  | .bitZeroPage b, h => readForm_wf (op := bitOp) (r := .zeroPage b) (fun _ _ => rfl) h hw
  | .bitAbsolute w, h => readForm_wf (op := bitOp) (r := .absolute w) (fun _ _ => rfl) h hw
  | .incZeroPage b, h => modifyForm_wf (f := increment) (r := .zeroPage b) h hw
  | .incZeroPageX b, h => modifyForm_wf (f := increment) (r := .zeroPageX b) h hw
  | .incAbsolute w, h => modifyForm_wf (f := increment) (r := .absolute w) h hw
  | .incAbsoluteX w, h => modifyForm_wf (f := increment) (r := .absoluteX w) h hw
  | .decZeroPage b, h => modifyForm_wf (f := decrement) (r := .zeroPage b) h hw
  | .decZeroPageX b, h => modifyForm_wf (f := decrement) (r := .zeroPageX b) h hw
  | .decAbsolute w, h => modifyForm_wf (f := decrement) (r := .absolute w) h hw
  | .decAbsoluteX w, h => modifyForm_wf (f := decrement) (r := .absoluteX w) h hw
  | .inx, h => impliedForm_wf (op := inxOp) (id) h hw
  | .iny, h => impliedForm_wf (op := inyOp) (id) h hw
  | .dex, h => impliedForm_wf (op := dexOp) (id) h hw
  | .dey, h => impliedForm_wf (op := deyOp) (id) h hw
  | .aslAccumulator, h => accumulatorForm_wf (f := shiftLeft) h hw
  | .aslZeroPage b, h => modifyForm_wf (f := shiftLeft) (r := .zeroPage b) h hw
  | .aslZeroPageX b, h => modifyForm_wf (f := shiftLeft) (r := .zeroPageX b) h hw
  | .aslAbsolute w, h => modifyForm_wf (f := shiftLeft) (r := .absolute w) h hw
  | .aslAbsoluteX w, h => modifyForm_wf (f := shiftLeft) (r := .absoluteX w) h hw
  | .lsrAccumulator, h => accumulatorForm_wf (f := shiftRight) h hw
  | .lsrZeroPage b, h => modifyForm_wf (f := shiftRight) (r := .zeroPage b) h hw
  | .lsrZeroPageX b, h => modifyForm_wf (f := shiftRight) (r := .zeroPageX b) h hw
  | .lsrAbsolute w, h => modifyForm_wf (f := shiftRight) (r := .absolute w) h hw
  | .lsrAbsoluteX w, h => modifyForm_wf (f := shiftRight) (r := .absoluteX w) h hw
  | .rolAccumulator, h => accumulatorForm_wf (f := rotateLeft) h hw
  | .rolZeroPage b, h => modifyForm_wf (f := rotateLeft) (r := .zeroPage b) h hw
  | .rolZeroPageX b, h => modifyForm_wf (f := rotateLeft) (r := .zeroPageX b) h hw
  | .rolAbsolute w, h => modifyForm_wf (f := rotateLeft) (r := .absolute w) h hw
  | .rolAbsoluteX w, h => modifyForm_wf (f := rotateLeft) (r := .absoluteX w) h hw
  | .rorAccumulator, h => accumulatorForm_wf (f := rotateRight) h hw
  | .rorZeroPage b, h => modifyForm_wf (f := rotateRight) (r := .zeroPage b) h hw
  | .rorZeroPageX b, h => modifyForm_wf (f := rotateRight) (r := .zeroPageX b) h hw
  | .rorAbsolute w, h => modifyForm_wf (f := rotateRight) (r := .absolute w) h hw
  | .rorAbsoluteX w, h => modifyForm_wf (f := rotateRight) (r := .absoluteX w) h hw
  | .clc, h => impliedForm_wf (op := clcOp) (id) h hw
  | .sec, h => impliedForm_wf (op := secOp) (id) h hw
  | .cli, h => impliedForm_wf (op := cliOp) (id) h hw
  | .sei, h => impliedForm_wf (op := seiOp) (id) h hw
  | .clv, h => impliedForm_wf (op := clvOp) (id) h hw
  | .cld, h => impliedForm_wf (op := cldOp) (id) h hw
  | .sed, h => impliedForm_wf (op := sedOp) (id) h hw
  | .nop, h => impliedForm_wf (op := nopOp) (id) h hw
  | .bpl d, h => branchForm_wf (cond := condBpl) (d := d) h hw
  | .bmi d, h => branchForm_wf (cond := condBmi) (d := d) h hw
  | .bvc d, h => branchForm_wf (cond := condBvc) (d := d) h hw
  | .bvs d, h => branchForm_wf (cond := condBvs) (d := d) h hw
  | .bcc d, h => branchForm_wf (cond := condBcc) (d := d) h hw
  | .bcs d, h => branchForm_wf (cond := condBcs) (d := d) h hw
  | .bne d, h => branchForm_wf (cond := condBne) (d := d) h hw
  | .beq d, h => branchForm_wf (cond := condBeq) (d := d) h hw
  | .jmpAbsolute w, h => jumpForm_wf (r := .absolute w) h hw
  | .jmpIndirect w, h => jumpForm_wf (r := .indirect w) h hw
  | .jsr _, h => jsr_wf h hw
  | .rts, h => impliedForm_wf (op := rtsOp) (id) h hw
  | .pha, h => impliedForm_wf (op := phaOp) (fun hu => State.push_wf hu _) h hw
  | .php, h => impliedForm_wf (op := phpOp) (fun hu => State.push_wf hu _) h hw
  | .pla, h => impliedForm_wf (op := plaOp) (id) h hw
  | .plp, h => impliedForm_wf (op := plpOp) (id) h hw
  | .brk, h => impliedForm_wf (op := brkOp) (fun hu => enterHandler_wf hu _ _ _) h hw
  | .rti, h => impliedForm_wf (op := rtiOp) (id) h hw

end Sys2Proof.Machine
end

