-- ==== Sys2Proof/Laws/Bus.lean ====
section
/-! SUPPORT. What each piece of the CORE's program does when it is served, by any backing and by plain RAM. -/

namespace Sys2Proof.Machine

variable {α β : Type} (B : Backing β)

@[simp] theorem Bus.serve_done (x : α) (b : β) : (Bus.done x).serve B b = ([], b, x) := rfl

/-- A read: the backing answers, and the program goes on with the byte. -/
@[simp] theorem Bus.serve_read (a : Word) (k : Byte → Bus α) (b : β) : (Bus.read a k).serve B b =
    (.read a (B.answer b a).1 :: ((k (B.answer b a).1).serve B (B.answer b a).2).1,
      ((k (B.answer b a).1).serve B (B.answer b a).2).2) := rfl

/-- A write: the backing takes the byte. -/
@[simp] theorem Bus.serve_write (a : Word) (v : Byte) (k : Bus α) (b : β) : (Bus.write a v k).serve B b =
    (.write a v :: (k.serve B (B.accept b a v)).1, (k.serve B (B.accept b a v)).2) := rfl

@[simp] theorem ram_answer (m : Memory) (a : Word) : ram.answer m a = (m.read a, m) := rfl

@[simp] theorem ram_accept (m : Memory) (a : Word) (v : Byte) : ram.accept m a v = m.write a v := rfl

/-- A change of the value changes no access. -/
theorem Bus.serve_map {γ : Type} (f : α → γ) (t : Bus α) (b : β) :
    (t.map f).serve B b = ((t.serve B b).1, (t.serve B b).2.1, f (t.serve B b).2.2) := by
  induction t generalizing b with
  | done x => rfl
  | read a k ih => simp only [Bus.map, Bus.serve_read, ih]
  | write a v k ih => simp only [Bus.map, Bus.serve_write, ih]

/-- The entry of a handler, on RAM: its accesses, its memory, and its state but for the memory (R237, R256). -/
theorem serve_busEntry (brk : Bool) (ret vec : Word) (s : State) (k : State → Bus α) :
    (busEntry brk ret vec s k).serve ram s.mem =
      let r := (k { enterHandler brk ret vec s with mem := s.mem }).serve ram (enterHandler brk ret vec s).mem
      (entryAccesses brk ret vec s ++ r.1, r.2) := rfl

/-- The operand bytes the resolver reads: an Immediate operand is read when the instruction executes (R87). -/
def operandReads (m : Mode) (s : State) : List Access := if m = .immediate then [] else (fetchAccesses m s).tail

/-- The pointer bytes the resolver reads (R94-R96). -/
def pointerReads (o : Operand) (s : State) : List Access :=
  match o with
  | .memory r => pointerAccesses r s
  | .implied => []
  | .accumulator => []
  | .immediate _ => []
  | .relative _ => []

theorem word_add_one_add_one (x : Word) : x + 1 + 1 = x + 2 := by bv_omega

theorem word_add_two_add_one (x : Word) : x + 2 + 1 = x + 3 := by bv_omega

theorem advance_one_advance_one (s : State) : (s.advance 1).advance 1 = s.advance 2 := by
  simp only [State.advance, word_add_one_add_one]

theorem advance_two_advance_one (s : State) : (s.advance 2).advance 1 = s.advance 3 := by
  simp only [State.advance, word_add_two_add_one]

/-- The resolver on RAM: its reads, and then the program after it with what `resolve` gives for the operand that the bytes after the
opcode make, and with PC past the instruction (R84-R99). -/
theorem serve_busResolve (m : Mode) (s : State) (k : Option Word → Bool → State → Bus α) :
    (busResolve m (s.advance 1) k).serve ram s.mem =
      let o := operandOf m (s.read (s.pc + 1)) (s.read (s.pc + 2))
      let r := (k (resolve o s).1 (resolve o s).2 (s.past m)).serve ram s.mem
      (operandReads m s ++ (pointerReads o s ++ r.1), r.2) := by
  cases m <;>
    simp only [busResolve, busFetch16, busFetch, busPointer, Bus.serve_read, ram_answer, advance_one_advance_one,
      advance_two_advance_one, operandOf, operandReads, fetchAccesses, Mode.length, pointerReads, pointerAccesses,
      resolve, MemRef.ea, MemRef.crossed, branchTarget, State.advance_pc, State.advance_x, State.advance_y,
      State.advance_cfg, State.read, State.read16zp, pointerHighAddr,
      readAt, zeroPagePointer, List.tail, List.cons_append, List.nil_append] <;>
    rfl

/-- Executing an instruction on RAM makes the accesses that are left, and leaves what exec leaves (R121). -/
theorem serve_busExecute (i : Instr) {s t : State} (h : exec i s = .next t)
    (hv : ∀ v, i.operand = .immediate v → v = s.read (s.pc + 1)) (g : State → α) :
    let r := (busExecute (Action.of i.mnemonic) (resolve i.operand s).1 (s.past i.operand.mode)
      (fun w => Bus.done (g w))).serve ram s.mem
    readAt s s.pc :: (operandReads i.operand.mode s ++ (pointerReads i.operand s ++ r.1)) = instrAccesses i s ∧
      r.2.1 = t.mem ∧ r.2.2 = g { t with mem := s.mem } := by
  cases i <;> (try obtain rfl := hv _ rfl) <;> cases h <;> refine ⟨?_, ?_, ?_⟩ <;> first | rfl | skip
  · have e : s.pc + 3 - 1 = s.pc + 2 := by bv_omega
    simp only [instrAccesses, Instr.operand, Instr.mnemonic, Action.of, memoryAccesses]
    rw [← e]
    rfl
  · have e : s.pc + 1 - 1 = s.pc := by bv_omega
    exact congrArg (fun z => readAt s s.pc :: entryAccesses true (z + s.cfg.brkReturnOffset.toWord) irqVector s) e

theorem map_busEntry (f : α → β) (brk : Bool) (ret vec : Word) (s : State) (k : State → Bus α) :
    (busEntry brk ret vec s k).map f = busEntry brk ret vec s (fun t => (k t).map f) := rfl

theorem map_busResolve (f : α → β) (m : Mode) (s : State) (k : Option Word → Bool → State → Bus α) :
    (busResolve m s k).map f = busResolve m s (fun a c t => (k a c t).map f) := by cases m <;> rfl

/-- The resolver does not look at the memory field. -/
theorem busResolve_mem (m : Mode) (s : State) (mem : Memory) (k : Option Word → Bool → State → Bus α) :
    busResolve m { s with mem := mem } k = busResolve m s (fun a c t => k a c { t with mem := mem }) := by
  cases m <;> rfl

/-- Nor does the execution of any operation. -/
theorem busExecute_mem (op : Mnemonic) (ea : Option Word) (s : State) (mem : Memory) (o : α) :
    busExecute (Action.of op) ea { s with mem := mem } (fun w => .done (w, o)) =
      (busExecute (Action.of op) ea s (fun w => .done (w, o))).map (fun r => ({ r.1 with mem := mem }, r.2)) := by
  cases op <;> cases ea <;> rfl

end Sys2Proof.Machine
end

