-- ==== Sys2Proof/Laws/Flags.lean ====
section
/-! SUPPORT. What each flag computation does, said once, on numbers. -/

namespace Sys2Proof.Machine

@[simp] theorem Flags.setZN_z (f : Flags) (v : Byte) : (f.setZN v).z = decide (v = 0) := rfl
@[simp] theorem Flags.setZN_n (f : Flags) (v : Byte) : (f.setZN v).n = v.getLsbD 7 := rfl
@[simp] theorem Flags.setZN_c (f : Flags) (v : Byte) : (f.setZN v).c = f.c := rfl
@[simp] theorem Flags.setZN_i (f : Flags) (v : Byte) : (f.setZN v).i = f.i := rfl
@[simp] theorem Flags.setZN_d (f : Flags) (v : Byte) : (f.setZN v).d = f.d := rfl
@[simp] theorem Flags.setZN_v (f : Flags) (v : Byte) : (f.setZN v).v = f.v := rfl

/-- Bit 7 is set in the upper half of the bytes. -/
theorem bit7_iff (r : Byte) : r.getLsbD 7 = true ↔ 128 ≤ r.toNat := by
  have e : r.getLsbD 7 = r.msb := by simp [BitVec.msb, BitVec.getMsbD]
  rw [e, BitVec.msb_eq_decide]; simp

/-- Bit 0 is set in the odd bytes. -/
theorem bit0_iff (v : Byte) : v.getLsbD 0 = true ↔ v.toNat % 2 = 1 := by
  simp [BitVec.getLsbD, Nat.testBit_zero]

theorem addWithCarry_flags (a b : Byte) (f : Flags) : (addWithCarry a b f).2 =
    { f with c := (addWithCarry a b f).2.c, v := (addWithCarry a b f).2.v, z := (addWithCarry a b f).2.z,
             n := (addWithCarry a b f).2.n } := rfl

theorem addWithCarry_toNat (a b : Byte) (f : Flags) :
    (addWithCarry a b f).1.toNat = (a.toNat + b.toNat + f.c.toNat) % 256 := by simp [addWithCarry]

theorem addWithCarry_c (a b : Byte) (f : Flags) :
    (addWithCarry a b f).2.c = true ↔ 255 < a.toNat + b.toNat + f.c.toNat := by simp [addWithCarry]

theorem addWithCarry_z (a b : Byte) (f : Flags) :
    (addWithCarry a b f).2.z = true ↔ (addWithCarry a b f).1.toNat = 0 := by simp [addWithCarry, BitVec.toNat_eq]

theorem addWithCarry_n (a b : Byte) (f : Flags) :
    (addWithCarry a b f).2.n = true ↔ 128 ≤ (addWithCarry a b f).1.toNat := by
  simp only [addWithCarry, Flags.setZN_n, bit7_iff]

/-- V is the signed overflow of the exact sum. -/
theorem addWithCarry_v (a b : Byte) (f : Flags) : (addWithCarry a b f).2.v = true ↔
    (a.toInt + b.toInt + f.c.toNat < -128 ∨ 127 < a.toInt + b.toInt + f.c.toNat) := by
  simp only [addWithCarry, Flags.setZN_v, BitVec.getLsbD_and, BitVec.getLsbD_xor]
  have h1 := bit7_iff a
  have h2 := bit7_iff b
  have h3 := bit7_iff (BitVec.ofNat 8 (a.toNat + b.toNat + f.c.toNat))
  have ha := a.isLt
  have hb := b.isLt
  rw [show (BitVec.ofNat 8 (a.toNat + b.toNat + f.c.toNat)).toNat = (a.toNat + b.toNat + f.c.toNat) % 256 by simp] at h3
  have hc : f.c.toNat ≤ 1 := Bool.toNat_le f.c
  rw [BitVec.toInt_eq_toNat_cond, BitVec.toInt_eq_toNat_cond]
  generalize a.getLsbD 7 = A at *
  generalize b.getLsbD 7 = B at *
  generalize (BitVec.ofNat 8 (a.toNat + b.toNat + f.c.toNat)).getLsbD 7 = R at *
  cases A <;> cases B <;> cases R <;> simp at h1 h2 h3 ⊢ <;> (try split) <;> (try split) <;> omega

theorem compareFlags_c (r m : Byte) (f : Flags) : (compareFlags r m f).c = true ↔ m.toNat ≤ r.toNat := by
  simp [compareFlags]

theorem compareFlags_z (r m : Byte) (f : Flags) : (compareFlags r m f).z = true ↔ r = m := by
  simp only [compareFlags, Flags.setZN_z, decide_eq_true_eq]
  constructor <;> intro h <;> bv_omega

theorem compareFlags_n (r m : Byte) (f : Flags) :
    (compareFlags r m f).n = true ↔ 128 ≤ (r.toNat + 256 - m.toNat) % 256 := by
  have := r.isLt
  have := m.isLt
  simp only [compareFlags, Flags.setZN_n, bit7_iff, BitVec.toNat_sub]
  omega

theorem increment_toNat (v : Byte) (f : Flags) : (increment v f).1.toNat = (v.toNat + 1) % 256 := by
  simp [increment, BitVec.toNat_add]

theorem decrement_toNat (v : Byte) (f : Flags) : (decrement v f).1.toNat = (v.toNat + 255) % 256 := by
  have := v.isLt
  simp [decrement, BitVec.toNat_sub]
  omega

theorem shiftLeft_toNat (v : Byte) (f : Flags) : (shiftLeft v f).1.toNat = v.toNat * 2 % 256 := by
  simp [shiftLeft, BitVec.toNat_shiftLeft, Nat.shiftLeft_eq]

theorem shiftLeft_c (v : Byte) (f : Flags) : (shiftLeft v f).2.c = true ↔ 128 ≤ v.toNat := bit7_iff v

theorem shiftRight_toNat (v : Byte) (f : Flags) : (shiftRight v f).1.toNat = v.toNat / 2 := by
  simp [shiftRight, Nat.shiftRight_eq_div_pow]

theorem shiftRight_c (v : Byte) (f : Flags) : (shiftRight v f).2.c = true ↔ v.toNat % 2 = 1 := bit0_iff v

theorem carry_in_low : ∀ (b : Bool) (v : Byte), ((v <<< 1) ||| flagBit b).toNat = (v.toNat * 2 + b.toNat) % 256 := by
  decide +kernel

theorem carry_in_high : ∀ (b : Bool) (v : Byte),
    ((v >>> 1) ||| (flagBit b <<< 7)).toNat = v.toNat / 2 + 128 * b.toNat := by
  decide +kernel

theorem rotateLeft_toNat (v : Byte) (f : Flags) :
    (rotateLeft v f).1.toNat = (v.toNat * 2 + f.c.toNat) % 256 := carry_in_low f.c v

theorem rotateLeft_c (v : Byte) (f : Flags) : (rotateLeft v f).2.c = true ↔ 128 ≤ v.toNat := bit7_iff v

theorem rotateRight_toNat (v : Byte) (f : Flags) :
    (rotateRight v f).1.toNat = v.toNat / 2 + 128 * f.c.toNat := carry_in_high f.c v

theorem rotateRight_c (v : Byte) (f : Flags) : (rotateRight v f).2.c = true ↔ v.toNat % 2 = 1 := bit0_iff v

/-- A pulled status byte gives back the flags it was pushed from, whatever its break bit. -/
@[simp] theorem restoreFlags_status (f : Flags) (b : Bool) : restoreFlags (f.status b) = f := by
  obtain ⟨c, z, i, d, v, n⟩ := f
  cases c <;> cases z <;> cases i <;> cases d <;> cases v <;> cases n <;> cases b <;> rfl

end Sys2Proof.Machine
end

