-- ==== Sys2Proof/Laws/Step.lean ====
section
/-! SUPPORT. Everything a step can do, said once. -/

namespace Sys2Proof.Machine

theorem step_faulted {s : State} {e : DecodeError} (h : s.fault = some e) :
    step s = .fault (.decodeError e.opcode e.addr) := by simp only [step, h]

theorem step_service {s t : State} {vec : Word} (h : s.fault = none) (hc : interruptCheck s = .service vec t) :
    step s = .next (interruptEntry vec t) := by
  unfold step; split
  · next e he => rw [h] at he; cases he
  · rw [hc]

theorem step_execute {s t : State} {i : Instr} (h : s.fault = none) (hc : interruptCheck s = .proceed t)
    (hi : fetchInstr t = some i) : step s = exec i t := by
  unfold step; split
  · next e he => rw [h] at he; cases he
  · rw [hc]; dsimp only; rw [hi]

theorem step_unmapped {s t : State} (h : s.fault = none) (hc : interruptCheck s = .proceed t)
    (hi : fetchInstr t = none) : step s = .fault (.decodeError (t.read t.pc) t.pc) := by
  unfold step; split
  · next e he => rw [h] at he; cases he
  · rw [hc]; dsimp only; rw [hi]

/-- The check lets an instruction run exactly when there is no NMI and no IRQ that I does not mask. -/
theorem interruptCheck_proceed {s : State} (hn : s.nmiPending = false) (hi : s.irqPending = true → s.p.i = true) :
    interruptCheck s = .proceed { s with irqPending := s.irqPending && !s.cfg.irqMaskedDiscard } := by
  rcases interruptCheck_cases s with ⟨h, _⟩ | ⟨_, h, h2, _⟩ | ⟨_, _, h⟩
  · rw [hn] at h; cases h
  · rw [hi h] at h2; cases h2
  · exact h

/-- When a step answers a next state, it serviced an interrupt or executed the instruction it fetched. -/
theorem step_next_cases {s u : State} (h : step s = .next u) :
    s.fault = none ∧
      ((∃ vec t, interruptCheck s = .service vec t ∧ u = interruptEntry vec t) ∨
        ∃ t i, interruptCheck s = .proceed t ∧ fetchInstr t = some i ∧ exec i t = .next u) := by
  cases hf : s.fault with
  | some e => rw [step_faulted hf] at h; cases h
  | none =>
    refine ⟨rfl, ?_⟩
    cases hc : interruptCheck s with
    | service vec t =>
      rw [step_service hf hc] at h
      cases h
      exact .inl ⟨vec, t, rfl, rfl⟩
    | proceed t =>
      cases hi : fetchInstr t with
      | none => rw [step_unmapped hf hc hi] at h; cases h
      | some i => exact .inr ⟨t, i, rfl, hi, by rw [← step_execute hf hc hi]; exact h⟩

/-- Nothing is fetched exactly where the opcode at PC has no entry. -/
theorem fetchInstr_eq_none {s : State} : fetchInstr s = none ↔ opcodeEntry (s.read s.pc) = none :=
  decodeOpcode_eq_none

end Sys2Proof.Machine
end

