-- ==== Sys2Proof/Tests/Slice0.lean ====
section
/-! SUPPORT. The model's own tests: ill-formed terms refused; every constructor decoded from a word written out bit by bit from the
encoding column of opcode_table.json; one step of each operation against 95_test_vectors.md (cited L<n>) or a hand calculation
from its rule; and the witnesses of the statements' hypotheses. -/

namespace Sys2Proof.Tests

open Sys2Proof.Machine

-- One theorem after another: many kernel decisions at once reserve more address space than the check allows.
set_option Elab.async false

/-- A small state at 0x0400 with all flags clear, the default parameters and an empty memory. -/
def base : State :=
  { State.reset with
    pc := 0x0400, sp := 0xFD
    p := { c := false, z := false, i := false, d := false, v := false, n := false } }

/-- `base` with memory bytes set. -/
def withBytes (l : List (Word × Byte)) (s : State) : State := l.foldl (fun t c => t.write c.1 c.2) s

/-- `s` with code placed at PC. -/
def ready (code : List Byte) (s : State) : State := hostCopy code s.pc s

/-- The next state of a step, if there is one. -/
def after (s : State) : Option State :=
  match step s with
  | .next t => some t
  | .fault _ => none
  | .refused _ => none

/-- What a function sees of the state after the step that runs `code`, with the cost of the step. -/
def sees {α : Type} (code : List Byte) (s : State) (f : State → α) : Option (α × Nat) :=
  (after (ready code s)).map (fun t => (f t, stepCost (ready code s)))

/-- The flags in the order C Z I D V N. -/
def bits (s : State) : List Bool := [s.p.c, s.p.z, s.p.i, s.p.d, s.p.v, s.p.n]

/-- A step's fault, if it has one. -/
def faultOf (s : State) : Option Fault :=
  match step s with
  | .fault f => some f
  | .next _ => none
  | .refused _ => none

/-! ### WellFormed: forms the table does not pair are refused -/

theorem test_refuses_sta_immediate : Form.wf { op := .STA, operand := .immediate 0 } = false := by decide
theorem test_refuses_stx_absolute_y : Form.wf { op := .STX, operand := .memory (.absoluteY 0) } = false := by decide
theorem test_refuses_sty_zero_page_y : Form.wf { op := .STY, operand := .memory (.zeroPageY 0) } = false := by decide
theorem test_refuses_ldx_zero_page_x : Form.wf { op := .LDX, operand := .memory (.zeroPageX 0) } = false := by decide
theorem test_refuses_ldy_indirect_y : Form.wf { op := .LDY, operand := .memory (.indirectY 0) } = false := by decide
theorem test_refuses_bit_immediate : Form.wf { op := .BIT, operand := .immediate 0 } = false := by decide
theorem test_refuses_cpx_absolute_x : Form.wf { op := .CPX, operand := .memory (.absoluteX 0) } = false := by decide
theorem test_refuses_inc_accumulator : Form.wf { op := .INC, operand := .accumulator } = false := by decide
theorem test_refuses_asl_immediate : Form.wf { op := .ASL, operand := .immediate 0 } = false := by decide
theorem test_refuses_nop_zero_page : Form.wf { op := .NOP, operand := .memory (.zeroPage 0) } = false := by decide
theorem test_refuses_jmp_relative : Form.wf { op := .JMP, operand := .relative 0 } = false := by decide
theorem test_refuses_jsr_indirect : Form.wf { op := .JSR, operand := .memory (.indirect 0) } = false := by decide
theorem test_refuses_bne_absolute : Form.wf { op := .BNE, operand := .memory (.absolute 0) } = false := by decide
theorem test_refuses_pha_accumulator : Form.wf { op := .PHA, operand := .accumulator } = false := by decide
theorem test_refuses_lda_implied : Form.wf { op := .LDA, operand := .implied } = false := by decide

theorem test_accepts_sta_indirect_y : (Instr.staIndirectY 0x20).WellFormed := by decide

/-! ### Decode: words written out from the table's encodings. The first operand byte is 0x34, the second 0x12. -/

theorem test_decode_lda :
    decode [0b10101001, 0b00110100] = .instr (.ldaImmediate 0x34) [] ∧
    decode [0b10100101, 0b00110100] = .instr (.ldaZeroPage 0x34) [] ∧
    decode [0b10110101, 0b00110100] = .instr (.ldaZeroPageX 0x34) [] ∧
    decode [0b10101101, 0b00110100, 0b00010010] = .instr (.ldaAbsolute 0x1234) [] ∧
    decode [0b10111101, 0b00110100, 0b00010010] = .instr (.ldaAbsoluteX 0x1234) [] ∧
    decode [0b10111001, 0b00110100, 0b00010010] = .instr (.ldaAbsoluteY 0x1234) [] ∧
    decode [0b10100001, 0b00110100] = .instr (.ldaIndirectX 0x34) [] ∧
    decode [0b10110001, 0b00110100] = .instr (.ldaIndirectY 0x34) [] := by decide +kernel

theorem test_decode_ldx :
    decode [0b10100010, 0b00110100] = .instr (.ldxImmediate 0x34) [] ∧
    decode [0b10100110, 0b00110100] = .instr (.ldxZeroPage 0x34) [] ∧
    decode [0b10110110, 0b00110100] = .instr (.ldxZeroPageY 0x34) [] ∧
    decode [0b10101110, 0b00110100, 0b00010010] = .instr (.ldxAbsolute 0x1234) [] ∧
    decode [0b10111110, 0b00110100, 0b00010010] = .instr (.ldxAbsoluteY 0x1234) [] := by decide +kernel

theorem test_decode_ldy :
    decode [0b10100000, 0b00110100] = .instr (.ldyImmediate 0x34) [] ∧
    decode [0b10100100, 0b00110100] = .instr (.ldyZeroPage 0x34) [] ∧
    decode [0b10110100, 0b00110100] = .instr (.ldyZeroPageX 0x34) [] ∧
    decode [0b10101100, 0b00110100, 0b00010010] = .instr (.ldyAbsolute 0x1234) [] ∧
    decode [0b10111100, 0b00110100, 0b00010010] = .instr (.ldyAbsoluteX 0x1234) [] := by decide +kernel

theorem test_decode_sta :
    decode [0b10000101, 0b00110100] = .instr (.staZeroPage 0x34) [] ∧
    decode [0b10010101, 0b00110100] = .instr (.staZeroPageX 0x34) [] ∧
    decode [0b10001101, 0b00110100, 0b00010010] = .instr (.staAbsolute 0x1234) [] ∧
    decode [0b10011101, 0b00110100, 0b00010010] = .instr (.staAbsoluteX 0x1234) [] ∧
    decode [0b10011001, 0b00110100, 0b00010010] = .instr (.staAbsoluteY 0x1234) [] ∧
    decode [0b10000001, 0b00110100] = .instr (.staIndirectX 0x34) [] ∧
    decode [0b10010001, 0b00110100] = .instr (.staIndirectY 0x34) [] := by decide +kernel

theorem test_decode_stx :
    decode [0b10000110, 0b00110100] = .instr (.stxZeroPage 0x34) [] ∧
    decode [0b10010110, 0b00110100] = .instr (.stxZeroPageY 0x34) [] ∧
    decode [0b10001110, 0b00110100, 0b00010010] = .instr (.stxAbsolute 0x1234) [] := by decide +kernel

theorem test_decode_sty :
    decode [0b10000100, 0b00110100] = .instr (.styZeroPage 0x34) [] ∧
    decode [0b10010100, 0b00110100] = .instr (.styZeroPageX 0x34) [] ∧
    decode [0b10001100, 0b00110100, 0b00010010] = .instr (.styAbsolute 0x1234) [] := by decide +kernel

theorem test_decode_tax :
    decode [0b10101010] = .instr .tax [] := by decide +kernel

theorem test_decode_tay :
    decode [0b10101000] = .instr .tay [] := by decide +kernel

theorem test_decode_txa :
    decode [0b10001010] = .instr .txa [] := by decide +kernel

theorem test_decode_tya :
    decode [0b10011000] = .instr .tya [] := by decide +kernel

theorem test_decode_tsx :
    decode [0b10111010] = .instr .tsx [] := by decide +kernel

theorem test_decode_txs :
    decode [0b10011010] = .instr .txs [] := by decide +kernel

theorem test_decode_adc :
    decode [0b01101001, 0b00110100] = .instr (.adcImmediate 0x34) [] ∧
    decode [0b01100101, 0b00110100] = .instr (.adcZeroPage 0x34) [] ∧
    decode [0b01110101, 0b00110100] = .instr (.adcZeroPageX 0x34) [] ∧
    decode [0b01101101, 0b00110100, 0b00010010] = .instr (.adcAbsolute 0x1234) [] ∧
    decode [0b01111101, 0b00110100, 0b00010010] = .instr (.adcAbsoluteX 0x1234) [] ∧
    decode [0b01111001, 0b00110100, 0b00010010] = .instr (.adcAbsoluteY 0x1234) [] ∧
    decode [0b01100001, 0b00110100] = .instr (.adcIndirectX 0x34) [] ∧
    decode [0b01110001, 0b00110100] = .instr (.adcIndirectY 0x34) [] := by decide +kernel

theorem test_decode_sbc :
    decode [0b11101001, 0b00110100] = .instr (.sbcImmediate 0x34) [] ∧
    decode [0b11100101, 0b00110100] = .instr (.sbcZeroPage 0x34) [] ∧
    decode [0b11110101, 0b00110100] = .instr (.sbcZeroPageX 0x34) [] ∧
    decode [0b11101101, 0b00110100, 0b00010010] = .instr (.sbcAbsolute 0x1234) [] ∧
    decode [0b11111101, 0b00110100, 0b00010010] = .instr (.sbcAbsoluteX 0x1234) [] ∧
    decode [0b11111001, 0b00110100, 0b00010010] = .instr (.sbcAbsoluteY 0x1234) [] ∧
    decode [0b11100001, 0b00110100] = .instr (.sbcIndirectX 0x34) [] ∧
    decode [0b11110001, 0b00110100] = .instr (.sbcIndirectY 0x34) [] := by decide +kernel

theorem test_decode_and :
    decode [0b00101001, 0b00110100] = .instr (.andImmediate 0x34) [] ∧
    decode [0b00100101, 0b00110100] = .instr (.andZeroPage 0x34) [] ∧
    decode [0b00110101, 0b00110100] = .instr (.andZeroPageX 0x34) [] ∧
    decode [0b00101101, 0b00110100, 0b00010010] = .instr (.andAbsolute 0x1234) [] ∧
    decode [0b00111101, 0b00110100, 0b00010010] = .instr (.andAbsoluteX 0x1234) [] ∧
    decode [0b00111001, 0b00110100, 0b00010010] = .instr (.andAbsoluteY 0x1234) [] ∧
    decode [0b00100001, 0b00110100] = .instr (.andIndirectX 0x34) [] ∧
    decode [0b00110001, 0b00110100] = .instr (.andIndirectY 0x34) [] := by decide +kernel

theorem test_decode_ora :
    decode [0b00001001, 0b00110100] = .instr (.oraImmediate 0x34) [] ∧
    decode [0b00000101, 0b00110100] = .instr (.oraZeroPage 0x34) [] ∧
    decode [0b00010101, 0b00110100] = .instr (.oraZeroPageX 0x34) [] ∧
    decode [0b00001101, 0b00110100, 0b00010010] = .instr (.oraAbsolute 0x1234) [] ∧
    decode [0b00011101, 0b00110100, 0b00010010] = .instr (.oraAbsoluteX 0x1234) [] ∧
    decode [0b00011001, 0b00110100, 0b00010010] = .instr (.oraAbsoluteY 0x1234) [] ∧
    decode [0b00000001, 0b00110100] = .instr (.oraIndirectX 0x34) [] ∧
    decode [0b00010001, 0b00110100] = .instr (.oraIndirectY 0x34) [] := by decide +kernel

theorem test_decode_eor :
    decode [0b01001001, 0b00110100] = .instr (.eorImmediate 0x34) [] ∧
    decode [0b01000101, 0b00110100] = .instr (.eorZeroPage 0x34) [] ∧
    decode [0b01010101, 0b00110100] = .instr (.eorZeroPageX 0x34) [] ∧
    decode [0b01001101, 0b00110100, 0b00010010] = .instr (.eorAbsolute 0x1234) [] ∧
    decode [0b01011101, 0b00110100, 0b00010010] = .instr (.eorAbsoluteX 0x1234) [] ∧
    decode [0b01011001, 0b00110100, 0b00010010] = .instr (.eorAbsoluteY 0x1234) [] ∧
    decode [0b01000001, 0b00110100] = .instr (.eorIndirectX 0x34) [] ∧
    decode [0b01010001, 0b00110100] = .instr (.eorIndirectY 0x34) [] := by decide +kernel

theorem test_decode_cmp :
    decode [0b11001001, 0b00110100] = .instr (.cmpImmediate 0x34) [] ∧
    decode [0b11000101, 0b00110100] = .instr (.cmpZeroPage 0x34) [] ∧
    decode [0b11010101, 0b00110100] = .instr (.cmpZeroPageX 0x34) [] ∧
    decode [0b11001101, 0b00110100, 0b00010010] = .instr (.cmpAbsolute 0x1234) [] ∧
    decode [0b11011101, 0b00110100, 0b00010010] = .instr (.cmpAbsoluteX 0x1234) [] ∧
    decode [0b11011001, 0b00110100, 0b00010010] = .instr (.cmpAbsoluteY 0x1234) [] ∧
    decode [0b11000001, 0b00110100] = .instr (.cmpIndirectX 0x34) [] ∧
    decode [0b11010001, 0b00110100] = .instr (.cmpIndirectY 0x34) [] := by decide +kernel

theorem test_decode_cpx :
    decode [0b11100000, 0b00110100] = .instr (.cpxImmediate 0x34) [] ∧
    decode [0b11100100, 0b00110100] = .instr (.cpxZeroPage 0x34) [] ∧
    decode [0b11101100, 0b00110100, 0b00010010] = .instr (.cpxAbsolute 0x1234) [] := by decide +kernel

theorem test_decode_cpy :
    decode [0b11000000, 0b00110100] = .instr (.cpyImmediate 0x34) [] ∧
    decode [0b11000100, 0b00110100] = .instr (.cpyZeroPage 0x34) [] ∧
    decode [0b11001100, 0b00110100, 0b00010010] = .instr (.cpyAbsolute 0x1234) [] := by decide +kernel

theorem test_decode_bit :
    decode [0b00100100, 0b00110100] = .instr (.bitZeroPage 0x34) [] ∧
    decode [0b00101100, 0b00110100, 0b00010010] = .instr (.bitAbsolute 0x1234) [] := by decide +kernel

theorem test_decode_inc :
    decode [0b11100110, 0b00110100] = .instr (.incZeroPage 0x34) [] ∧
    decode [0b11110110, 0b00110100] = .instr (.incZeroPageX 0x34) [] ∧
    decode [0b11101110, 0b00110100, 0b00010010] = .instr (.incAbsolute 0x1234) [] ∧
    decode [0b11111110, 0b00110100, 0b00010010] = .instr (.incAbsoluteX 0x1234) [] := by decide +kernel

theorem test_decode_dec :
    decode [0b11000110, 0b00110100] = .instr (.decZeroPage 0x34) [] ∧
    decode [0b11010110, 0b00110100] = .instr (.decZeroPageX 0x34) [] ∧
    decode [0b11001110, 0b00110100, 0b00010010] = .instr (.decAbsolute 0x1234) [] ∧
    decode [0b11011110, 0b00110100, 0b00010010] = .instr (.decAbsoluteX 0x1234) [] := by decide +kernel

theorem test_decode_inx :
    decode [0b11101000] = .instr .inx [] := by decide +kernel

theorem test_decode_iny :
    decode [0b11001000] = .instr .iny [] := by decide +kernel

theorem test_decode_dex :
    decode [0b11001010] = .instr .dex [] := by decide +kernel

theorem test_decode_dey :
    decode [0b10001000] = .instr .dey [] := by decide +kernel

theorem test_decode_asl :
    decode [0b00001010] = .instr .aslAccumulator [] ∧
    decode [0b00000110, 0b00110100] = .instr (.aslZeroPage 0x34) [] ∧
    decode [0b00010110, 0b00110100] = .instr (.aslZeroPageX 0x34) [] ∧
    decode [0b00001110, 0b00110100, 0b00010010] = .instr (.aslAbsolute 0x1234) [] ∧
    decode [0b00011110, 0b00110100, 0b00010010] = .instr (.aslAbsoluteX 0x1234) [] := by decide +kernel

theorem test_decode_lsr :
    decode [0b01001010] = .instr .lsrAccumulator [] ∧
    decode [0b01000110, 0b00110100] = .instr (.lsrZeroPage 0x34) [] ∧
    decode [0b01010110, 0b00110100] = .instr (.lsrZeroPageX 0x34) [] ∧
    decode [0b01001110, 0b00110100, 0b00010010] = .instr (.lsrAbsolute 0x1234) [] ∧
    decode [0b01011110, 0b00110100, 0b00010010] = .instr (.lsrAbsoluteX 0x1234) [] := by decide +kernel

theorem test_decode_rol :
    decode [0b00101010] = .instr .rolAccumulator [] ∧
    decode [0b00100110, 0b00110100] = .instr (.rolZeroPage 0x34) [] ∧
    decode [0b00110110, 0b00110100] = .instr (.rolZeroPageX 0x34) [] ∧
    decode [0b00101110, 0b00110100, 0b00010010] = .instr (.rolAbsolute 0x1234) [] ∧
    decode [0b00111110, 0b00110100, 0b00010010] = .instr (.rolAbsoluteX 0x1234) [] := by decide +kernel

theorem test_decode_ror :
    decode [0b01101010] = .instr .rorAccumulator [] ∧
    decode [0b01100110, 0b00110100] = .instr (.rorZeroPage 0x34) [] ∧
    decode [0b01110110, 0b00110100] = .instr (.rorZeroPageX 0x34) [] ∧
    decode [0b01101110, 0b00110100, 0b00010010] = .instr (.rorAbsolute 0x1234) [] ∧
    decode [0b01111110, 0b00110100, 0b00010010] = .instr (.rorAbsoluteX 0x1234) [] := by decide +kernel

theorem test_decode_clc :
    decode [0b00011000] = .instr .clc [] := by decide +kernel

theorem test_decode_sec :
    decode [0b00111000] = .instr .sec [] := by decide +kernel

theorem test_decode_cli :
    decode [0b01011000] = .instr .cli [] := by decide +kernel

theorem test_decode_sei :
    decode [0b01111000] = .instr .sei [] := by decide +kernel

theorem test_decode_clv :
    decode [0b10111000] = .instr .clv [] := by decide +kernel

theorem test_decode_cld :
    decode [0b11011000] = .instr .cld [] := by decide +kernel

theorem test_decode_sed :
    decode [0b11111000] = .instr .sed [] := by decide +kernel

theorem test_decode_nop :
    decode [0b11101010] = .instr .nop [] := by decide +kernel

theorem test_decode_bpl :
    decode [0b00010000, 0b00110100] = .instr (.bpl 0x34) [] := by decide +kernel

theorem test_decode_bmi :
    decode [0b00110000, 0b00110100] = .instr (.bmi 0x34) [] := by decide +kernel

theorem test_decode_bvc :
    decode [0b01010000, 0b00110100] = .instr (.bvc 0x34) [] := by decide +kernel

theorem test_decode_bvs :
    decode [0b01110000, 0b00110100] = .instr (.bvs 0x34) [] := by decide +kernel

theorem test_decode_bcc :
    decode [0b10010000, 0b00110100] = .instr (.bcc 0x34) [] := by decide +kernel

theorem test_decode_bcs :
    decode [0b10110000, 0b00110100] = .instr (.bcs 0x34) [] := by decide +kernel

theorem test_decode_bne :
    decode [0b11010000, 0b00110100] = .instr (.bne 0x34) [] := by decide +kernel

theorem test_decode_beq :
    decode [0b11110000, 0b00110100] = .instr (.beq 0x34) [] := by decide +kernel

theorem test_decode_jmp :
    decode [0b01001100, 0b00110100, 0b00010010] = .instr (.jmpAbsolute 0x1234) [] ∧
    decode [0b01101100, 0b00110100, 0b00010010] = .instr (.jmpIndirect 0x1234) [] := by decide +kernel

theorem test_decode_jsr :
    decode [0b00100000, 0b00110100, 0b00010010] = .instr (.jsr 0x1234) [] := by decide +kernel

theorem test_decode_rts :
    decode [0b01100000] = .instr .rts [] := by decide +kernel

theorem test_decode_pha :
    decode [0b01001000] = .instr .pha [] := by decide +kernel

theorem test_decode_php :
    decode [0b00001000] = .instr .php [] := by decide +kernel

theorem test_decode_pla :
    decode [0b01101000] = .instr .pla [] := by decide +kernel

theorem test_decode_plp :
    decode [0b00101000] = .instr .plp [] := by decide +kernel

theorem test_decode_brk :
    decode [0b00000000] = .instr .brk [] := by decide +kernel

theorem test_decode_rti :
    decode [0b01000000] = .instr .rti [] := by decide +kernel

/-- An operand byte that is missing is asked for, not invented (R81). -/
theorem test_decode_short : decode [0b10101101, 0b00110100] = .truncated := by decide +kernel

theorem test_decode_rest : decode [0xEA, 0x02] = .instr .nop [0x02] := by decide +kernel

/-- The table's numbering: bits 15..8 are the second byte. -/
theorem test_decode_table_word : decodeTableWord 24 0x20FFBD = some (.ldaAbsoluteX 0x20FF) ∧
    decodeTableWord 8 0xA9 = some (.ldaImmediate 0) ∧ decodeTableWord 8 0x02 = none := by decide +kernel

/-! ### One step of each operation. `bits` lists C Z I D V N. -/

/-- L2-2 a. -/
theorem test_lda_zero :
    sees [0xA9, 0x00] { base with a := 7 } (fun t => (t.a, bits t, t.pc)) = some ((0x00, [false, true, false, false, false, false], 0x0402), 2) := by decide +kernel

/-- L2-2 b. -/
theorem test_lda_negative :
    sees [0xA9, 0x80] base (fun t => (t.a, bits t)) = some ((0x80, [false, false, false, false, false, true]), 2) := by decide +kernel

/-- L1-4. -/
theorem test_lda_absolute_x_crossing :
    sees [0xBD, 0xFF, 0x20] (withBytes [(0x2100, 0x77)] { base with x := 1 }) (fun t => (t.a, t.pc)) = some ((0x77, 0x0403), 5) := by decide +kernel

/-- L2-2 c. -/
theorem test_ldx_zero_page :
    sees [0xA6, 0x10] (withBytes [(0x0010, 0x7F)] base) (fun t => (t.x, bits t)) = some ((0x7F, [false, false, false, false, false, false]), 3) := by decide +kernel

/-- L2-2 d. -/
theorem test_ldx_absolute_y_crossing :
    sees [0xBE, 0xFF, 0x20] { base with x := 9, y := 1 } (fun t => (t.x, bits t)) = some ((0x00, [false, true, false, false, false, false]), 5) := by decide +kernel

/-- R89, L2-1 c. -/
theorem test_ldy_zero_page_x_wraps :
    sees [0xB4, 0xFF] (withBytes [(0x0001, 0x81)] { base with x := 2 }) (fun t => (t.y, bits t)) = some ((0x81, [false, false, false, false, false, true]), 4) := by decide +kernel

/-- L2-1 l. -/
theorem test_lda_indirect_x_wraps :
    sees [0xA1, 0xFF] (withBytes [(0x00FF, 0x34), (0x0000, 0x12), (0x1234, 0x5A)] base) (fun t => t.a) = some (0x5A, 6) := by decide +kernel

/-- L2-1 m. -/
theorem test_lda_indirect_y_crossing :
    sees [0xB1, 0x20] (withBytes [(0x0020, 0xFF), (0x0021, 0x20), (0x2100, 0x5A)] { base with y := 1 }) (fun t => t.a) = some (0x5A, 6) := by decide +kernel

/-- L2-1 d. -/
theorem test_ldx_zero_page_y_wraps :
    sees [0xB6, 0x80] (withBytes [(0x0010, 0x42)] { base with y := 0x90 }) (fun t => t.x) = some (0x42, 4) := by decide +kernel

/-- L2-1 g. -/
theorem test_lda_absolute_x_top_wraps :
    sees [0xBD, 0xFF, 0xFF] (withBytes [(0x0000, 0x42)] { base with x := 1 }) (fun t => t.a) = some (0x42, 5) := by decide +kernel

/-- L2-2 e. -/
theorem test_sta_absolute :
    sees [0x8D, 0x00, 0x02] { base with a := 0x55, p := { base.p with z := true } } (fun t => (t.read 0x0200, bits t)) = some ((0x55, [false, true, false, false, false, false]), 4) := by decide +kernel

/-- L1-4. -/
theorem test_sta_absolute_x_no_extra :
    sees [0x9D, 0xFF, 0x20] { base with a := 0x55, x := 1 } (fun t => (t.read 0x2100, t.pc)) = some ((0x55, 0x0403), 5) := by decide +kernel

/-- R88, R90. -/
theorem test_stx_zero_page_y :
    sees [0x96, 0x80] { base with x := 0x33, y := 0x90 } (fun t => (t.read 0x0010, t.x)) = some ((0x33, 0x33), 4) := by decide +kernel

/-- L2-2 f. -/
theorem test_sty_zero_page_x_wraps :
    sees [0x94, 0xFF] { base with x := 3, y := 0x9A } (fun t => t.read 0x0002) = some (0x9A, 4) := by decide +kernel

/-- L2-2 g. -/
theorem test_tax :
    sees [0xAA] { base with x := 5 } (fun t => (t.x, bits t)) = some ((0x00, [false, true, false, false, false, false]), 2) := by decide +kernel

/-- R147. -/
theorem test_tay :
    sees [0xA8] { base with a := 0x80 } (fun t => (t.y, bits t)) = some ((0x80, [false, false, false, false, false, true]), 2) := by decide +kernel

/-- R148. -/
theorem test_txa :
    sees [0x8A] { base with a := 1, x := 0x7F, p := { base.p with z := true, n := true } } (fun t => (t.a, bits t)) = some ((0x7F, [false, false, false, false, false, false]), 2) := by decide +kernel

/-- L2-2 j. -/
theorem test_tya :
    sees [0x98] { base with y := 0x80 } (fun t => (t.a, bits t)) = some ((0x80, [false, false, false, false, false, true]), 2) := by decide +kernel

/-- L2-2 i. -/
theorem test_tsx :
    sees [0xBA] base (fun t => (t.x, bits t)) = some ((0xFD, [false, false, false, false, false, true]), 2) := by decide +kernel

/-- L2-2 h. -/
theorem test_txs :
    sees [0x9A] base (fun t => (t.sp, bits t)) = some ((0x00, [false, false, false, false, false, false]), 2) := by decide +kernel

/-- L2-3: one ADC or SBC with an Immediate operand: A, then C Z V N. -/
def arith (op a m : Byte) (c : Bool) : Option (Byte × List Bool) :=
  (after (ready [op, m] { base with a := a, p := { base.p with c := c } })).map (fun t => (t.a, [t.p.c, t.p.z, t.p.v, t.p.n]))

/-- L2-3, every ADC row. -/
theorem test_adc :
    arith 0x69 0xFF 0x01 false = some (0x00, [true, true, false, false]) ∧
    arith 0x69 0x50 0x50 false = some (0xA0, [false, false, true, true]) ∧
    arith 0x69 0x7F 0x00 true = some (0x80, [false, false, true, true]) ∧
    arith 0x69 0x80 0x80 false = some (0x00, [true, true, true, false]) ∧
    arith 0x69 0x01 0xFF false = some (0x00, [true, true, false, false]) ∧
    arith 0x69 0x00 0x00 false = some (0x00, [false, true, false, false]) ∧
    arith 0x69 0x80 0xFF false = some (0x7F, [true, false, true, false]) ∧
    arith 0x69 0x3F 0x40 true = some (0x80, [false, false, true, true]) := by decide +kernel

/-- L2-3, every SBC row. -/
theorem test_sbc :
    arith 0xE9 0x50 0xF0 true = some (0x60, [false, false, false, false]) ∧
    arith 0xE9 0x50 0xB0 true = some (0xA0, [false, false, true, true]) ∧
    arith 0xE9 0xD0 0x70 true = some (0x60, [true, false, true, false]) ∧
    arith 0xE9 0x00 0x00 false = some (0xFF, [false, false, false, true]) ∧
    arith 0xE9 0x80 0x01 true = some (0x7F, [true, false, true, false]) ∧
    arith 0xE9 0x05 0x03 true = some (0x02, [true, false, false, false]) ∧
    arith 0xE9 0x05 0x05 true = some (0x00, [true, true, false, false]) ∧
    arith 0xE9 0x05 0x06 true = some (0xFF, [false, false, false, true]) := by decide +kernel

/-- L2-3, decimal mode. -/
theorem test_adc_decimal_is_binary :
    sees [0x69, 0x01] { base with a := 9, p := { base.p with d := true } } (fun t => (t.a, bits t)) = some ((0x0A, [false, false, false, true, false, false]), 2) := by decide +kernel

/-- R179, R164: 0x10 - 0x01. -/
theorem test_sbc_decimal_is_binary :
    sees [0xE9, 0x01] { base with a := 0x10, p := { base.p with c := true, d := true } } (fun t => (t.a, bits t)) = some ((0x0F, [true, false, false, true, false, false]), 2) := by decide +kernel

/-- L2-4 a. -/
theorem test_and :
    sees [0x29, 0x0F] { base with a := 0xF0 } (fun t => (t.a, bits t)) = some ((0x00, [false, true, false, false, false, false]), 2) := by decide +kernel

/-- L2-4 b. -/
theorem test_ora :
    sees [0x09, 0x80] { base with a := 0x0F } (fun t => (t.a, bits t)) = some ((0x8F, [false, false, false, false, false, true]), 2) := by decide +kernel

/-- L2-4 c. -/
theorem test_eor :
    sees [0x49, 0xFF] { base with a := 0xFF } (fun t => (t.a, bits t)) = some ((0x00, [false, true, false, false, false, false]), 2) := by decide +kernel

/-- L2-4 d. -/
theorem test_cmp_less :
    sees [0xC9, 0x20] { base with a := 0x10, p := { base.p with c := true, v := true } } (fun t => (t.a, bits t)) = some ((0x10, [false, false, false, false, true, true]), 2) := by decide +kernel

/-- L2-4 e. -/
theorem test_cmp_unsigned :
    sees [0xC9, 0x01] { base with a := 0x80 } (fun t => bits t) = some ([true, false, false, false, false, false], 2) := by decide +kernel

/-- L2-4 f. -/
theorem test_cpx_equal :
    sees [0xE0, 0x42] { base with x := 0x42 } (fun t => (t.x, bits t)) = some ((0x42, [true, true, false, false, false, false]), 2) := by decide +kernel

/-- L2-4 g. -/
theorem test_cpy :
    sees [0xC0, 0xFF] { base with p := { base.p with n := true } } (fun t => bits t) = some ([false, false, false, false, false, false], 2) := by decide +kernel

/-- L2-4 i. -/
theorem test_bit_upper_bits :
    sees [0x24, 0x10] (withBytes [(0x0010, 0xC0)] { base with a := 0x0F }) (fun t => (t.a, bits t)) = some ((0x0F, [false, true, false, false, true, true]), 3) := by decide +kernel

/-- L2-4 j. -/
theorem test_bit_clears :
    sees [0x24, 0x10] (withBytes [(0x0010, 0x01)] { base with a := 0xFF, p := { base.p with z := true, v := true, n := true } }) (fun t => bits t) = some ([false, false, false, false, false, false], 3) := by decide +kernel

/-- L2-5 a. -/
theorem test_inc_wraps :
    sees [0xE6, 0x30] (withBytes [(0x0030, 0xFF)] { base with p := { base.p with c := true, v := true } }) (fun t => (t.read 0x0030, bits t)) = some ((0x00, [true, true, false, false, true, false]), 5) := by decide +kernel

/-- L2-5 e. -/
theorem test_inc_absolute_x :
    sees [0xFE, 0xFF, 0x20] (withBytes [(0x2100, 0x7F)] { base with x := 1 }) (fun t => (t.read 0x2100, bits t)) = some ((0x80, [false, false, false, false, false, true]), 7) := by decide +kernel

/-- L2-5 b. -/
theorem test_dec_wraps :
    sees [0xC6, 0x30] base (fun t => (t.read 0x0030, bits t)) = some ((0xFF, [false, false, false, false, false, true]), 5) := by decide +kernel

/-- L2-5 c. -/
theorem test_inx :
    sees [0xE8] { base with x := 0xFF } (fun t => (t.x, bits t)) = some ((0x00, [false, true, false, false, false, false]), 2) := by decide +kernel

/-- R175. -/
theorem test_iny :
    sees [0xC8] { base with y := 0x7F } (fun t => (t.y, bits t)) = some ((0x80, [false, false, false, false, false, true]), 2) := by decide +kernel

/-- R176. -/
theorem test_dex :
    sees [0xCA] { base with x := 1 } (fun t => (t.x, bits t)) = some ((0x00, [false, true, false, false, false, false]), 2) := by decide +kernel

/-- L2-5 d. -/
theorem test_dey :
    sees [0x88] base (fun t => (t.y, bits t)) = some ((0xFF, [false, false, false, false, false, true]), 2) := by decide +kernel

/-- L2-6 a. -/
theorem test_asl :
    sees [0x0A] { base with a := 0x80 } (fun t => (t.a, bits t)) = some ((0x00, [true, true, false, false, false, false]), 2) := by decide +kernel

/-- R191: 0x41 is doubled. -/
theorem test_asl_memory :
    sees [0x1E, 0xFF, 0x20] (withBytes [(0x2100, 0x41)] { base with x := 1, a := 3, p := { base.p with c := true } }) (fun t => (t.read 0x2100, t.a, bits t)) = some ((0x82, 0x03, [false, false, false, false, false, true]), 7) := by decide +kernel

/-- L2-6 b. -/
theorem test_lsr :
    sees [0x4A] { base with a := 1 } (fun t => (t.a, bits t)) = some ((0x00, [true, true, false, false, false, false]), 2) := by decide +kernel

/-- L2-6 f. -/
theorem test_lsr_memory :
    sees [0x46, 0x40] (withBytes [(0x0040, 0xFF)] { base with p := { base.p with n := true } }) (fun t => (t.read 0x0040, bits t)) = some ((0x7F, [true, false, false, false, false, false]), 5) := by decide +kernel

/-- L2-6 c. -/
theorem test_rol :
    sees [0x2A] { base with a := 0x80 } (fun t => (t.a, bits t)) = some ((0x00, [true, true, false, false, false, false]), 2) := by decide +kernel

/-- L2-6 e. -/
theorem test_rol_memory :
    sees [0x26, 0x40] (withBytes [(0x0040, 0x41)] { base with a := 3, p := { base.p with c := true } }) (fun t => (t.read 0x0040, t.a, bits t)) = some ((0x83, 0x03, [false, false, false, false, false, true]), 5) := by decide +kernel

/-- L2-6 d. -/
theorem test_ror :
    sees [0x6A] { base with a := 1, p := { base.p with c := true } } (fun t => (t.a, bits t)) = some ((0x80, [true, false, false, false, false, true]), 2) := by decide +kernel

/-- R194: a zero carry comes in. -/
theorem test_ror_memory :
    sees [0x66, 0x40] (withBytes [(0x0040, 0x82)] base) (fun t => (t.read 0x0040, bits t)) = some ((0x41, [false, false, false, false, false, false]), 5) := by decide +kernel

/-- L2-7 a. -/
theorem test_sec :
    sees [0x38] base (fun t => (bits t, t.pc)) = some (([true, false, false, false, false, false], 0x0401), 2) := by decide +kernel

/-- L2-7 b. -/
theorem test_clc :
    sees [0x18] { base with p := { base.p with c := true } } (fun t => (bits t, t.pc)) = some (([false, false, false, false, false, false], 0x0401), 2) := by decide +kernel

/-- L2-7 c. -/
theorem test_cli :
    sees [0x58] { base with p := { base.p with i := true } } (fun t => (bits t, t.pc)) = some (([false, false, false, false, false, false], 0x0401), 2) := by decide +kernel

/-- L2-7 d. -/
theorem test_sei :
    sees [0x78] base (fun t => (bits t, t.pc)) = some (([false, false, true, false, false, false], 0x0401), 2) := by decide +kernel

/-- L2-7 e. -/
theorem test_clv :
    sees [0xB8] { base with p := { base.p with v := true } } (fun t => (bits t, t.pc)) = some (([false, false, false, false, false, false], 0x0401), 2) := by decide +kernel

/-- L2-7 f. -/
theorem test_sed :
    sees [0xF8] base (fun t => (bits t, t.pc)) = some (([false, false, false, true, false, false], 0x0401), 2) := by decide +kernel

/-- L2-7 g. -/
theorem test_cld :
    sees [0xD8] { base with p := { base.p with d := true } } (fun t => (bits t, t.pc)) = some (([false, false, false, false, false, false], 0x0401), 2) := by decide +kernel

/-- L2-7 h. -/
theorem test_nop : after (ready [0xEA] base) = some { ready [0xEA] base with pc := 0x0401 } ∧
    stepCost (ready [0xEA] base) = 2 := by decide +kernel

/-- L2-8 a. -/
theorem test_bne_not_taken :
    sees [0xD0, 0x05] { base with p := { base.p with z := true } } (fun t => t.pc) = some (0x0402, 2) := by decide +kernel

/-- L2-8 b. -/
theorem test_bne_taken :
    sees [0xD0, 0x05] base (fun t => t.pc) = some (0x0407, 3) := by decide +kernel

/-- L2-8 c. -/
theorem test_beq_taken_crossing :
    sees [0xF0, 0x20] { base with pc := 0x04F0, p := { base.p with z := true } } (fun t => t.pc) = some (0x0512, 4) := by decide +kernel

/-- L2-8 d. -/
theorem test_beq_not_taken :
    sees [0xF0, 0x20] { base with pc := 0x04F0 } (fun t => t.pc) = some (0x04F2, 2) := by decide +kernel

/-- L2-8 e. -/
theorem test_bcc_backwards :
    sees [0x90, 0x80] base (fun t => t.pc) = some (0x0382, 4) := by decide +kernel

/-- L2-8 f. -/
theorem test_bpl_to_itself :
    sees [0x10, 0xFE] base (fun t => t.pc) = some (0x0400, 3) := by decide +kernel

/-- L2-8 g. -/
theorem test_bmi :
    sees [0x30, 0x02] { base with p := { base.p with n := true } } (fun t => t.pc) = some (0x0404, 3) := by decide +kernel

/-- L2-8 h. -/
theorem test_bvs_not_taken :
    sees [0x70, 0x02] base (fun t => t.pc) = some (0x0402, 2) := by decide +kernel

/-- L2-8 i. -/
theorem test_bvc :
    sees [0x50, 0x02] base (fun t => t.pc) = some (0x0404, 3) := by decide +kernel

/-- L2-8 j. -/
theorem test_bcs :
    sees [0xB0, 0x02] { base with p := { base.p with c := true } } (fun t => t.pc) = some (0x0404, 3) := by decide +kernel

/-- L2-1 s. -/
theorem test_branch_wraps_the_address_space :
    sees [0xD0, 0x01] { base with pc := 0xFFFE } (fun t => t.pc) = some (0x0001, 3) := by decide +kernel

/-- L2-9 a. -/
theorem test_jmp :
    sees [0x4C, 0x00, 0x06] base (fun t => t.pc) = some (0x0600, 3) := by decide +kernel

/-- L2-9 b. -/
theorem test_jmp_indirect :
    sees [0x6C, 0xFF, 0x02] (withBytes [(0x02FF, 0x00), (0x0300, 0x04), (0x0200, 0x08)] base) (fun t => t.pc) = some (0x0400, 5) := by decide +kernel

/-- L2-9 b with JMP_IND_PAGE_WRAP. -/
theorem test_jmp_indirect_page_wrap :
    sees [0x6C, 0xFF, 0x02] (withBytes [(0x02FF, 0x00), (0x0300, 0x04), (0x0200, 0x08)] { base with cfg := { base.cfg with jmpIndPageWrap := true } }) (fun t => t.pc) = some (0x0800, 5) := by decide +kernel

/-- L2-9 c. -/
theorem test_jsr :
    sees [0x20, 0x10, 0x04] { base with pc := 0x0405, sp := 0xFF } (fun t => ([t.read 0x01FF, t.read 0x01FE, t.sp], t.pc)) = some (([0x04, 0x07, 0xFD], 0x0410), 6) := by decide +kernel

/-- L2-9 e. -/
theorem test_jsr_wraps :
    sees [0x20, 0x00, 0x05] { base with sp := 0 } (fun t => (t.read 0x0100, t.read 0x01FF, t.sp)) = some ((0x04, 0x02, 0xFE), 6) := by decide +kernel

/-- L2-9 d. -/
theorem test_rts :
    sees [0x60] (withBytes [(0x01FE, 0x07), (0x01FF, 0x04)] base) (fun t => (t.pc, t.sp)) = some ((0x0408, 0xFF), 6) := by decide +kernel

/-- L2-9 f. -/
theorem test_pha :
    sees [0x48] { base with a := 0x42 } (fun t => (t.read 0x01FD, t.sp)) = some ((0x42, 0xFC), 3) := by decide +kernel

/-- L2-9 g. -/
theorem test_php :
    sees [0x08] { base with sp := 0xFF, p := { base.p with c := true } } (fun t => (t.read 0x01FF, t.sp)) = some ((0x31, 0xFE), 3) := by decide +kernel

/-- L2-9 i. -/
theorem test_pla :
    sees [0x68] { base with a := 7, sp := 0xFC } (fun t => (t.a, t.sp, bits t)) = some ((0x00, 0xFD, [false, true, false, false, false, false]), 4) := by decide +kernel

/-- L2-9 j. -/
theorem test_plp_ones :
    sees [0x28] (withBytes [(0x01FF, 0xFF)] { base with sp := 0xFE }) (fun t => (t.sp, bits t)) = some ((0xFF, [true, true, true, true, true, true]), 4) := by decide +kernel

/-- L2-9 k. -/
theorem test_plp_zeros :
    sees [0x28] { base with sp := 0xFE, p := { base.p with c := true, z := true, i := true, d := true, v := true, n := true } } (fun t => bits t) = some ([false, false, false, false, false, false], 4) := by decide +kernel

/-- L2-9 l. -/
theorem test_brk :
    sees [0x00] (withBytes [(0xFFFF, 0x80)] { base with pc := 0x0600, sp := 0xFF }) (fun t => ([t.read 0x01FF, t.read 0x01FE, t.read 0x01FD, t.sp], t.pc, bits t)) = some (([0x06, 0x02, 0x30, 0xFC], 0x8000, [false, false, true, false, false, false]), 7) := by decide +kernel

/-- L2-9 m. -/
theorem test_brk_offset_one :
    sees [0x00] (withBytes [(0xFFFF, 0x80)] { base with pc := 0x0600, sp := 0xFF, cfg := { base.cfg with brkReturnOffset := .one } }) (fun t => ([t.read 0x01FF, t.read 0x01FE, t.read 0x01FD, t.sp], t.pc, bits t)) = some (([0x06, 0x01, 0x30, 0xFC], 0x8000, [false, false, true, false, false, false]), 7) := by decide +kernel

/-- L2-9 n. -/
theorem test_rti :
    sees [0x40] (withBytes [(0x01FB, 0x20), (0x01FC, 0x01), (0x01FD, 0x04)] { base with sp := 0xFA, p := { base.p with c := true, z := true, i := true, d := true, v := true, n := true } }) (fun t => (t.pc, t.sp, bits t)) = some ((0x0401, 0xFD, [false, false, false, false, false, false]), 6) := by decide +kernel

/-- L2-10 a. -/
theorem test_masked_irq_waits :
    sees [0xEA] { base with irqPending := true, p := { base.p with i := true } } (fun t => (t.pc, t.irqPending)) = some ((0x0401, true), 2) := by decide +kernel

/-- L2-10 a with IRQ_MASKED_DISCARD. -/
theorem test_masked_irq_discarded :
    sees [0xEA] { base with irqPending := true, cfg := { base.cfg with irqMaskedDiscard := true }, p := { base.p with i := true } } (fun t => (t.pc, t.irqPending)) = some ((0x0401, false), 2) := by decide +kernel

/-- L2-10 b. -/
theorem test_irq :
    sees [0xEA] (withBytes [(0xFFFF, 0x06)] { base with pc := 0x0401, irqPending := true }) (fun t => ([t.read 0x01FD, t.read 0x01FC, t.read 0x01FB, t.sp], bits t, t.pc, t.irqPending)) = some (([0x04, 0x01, 0x20, 0xFA], [false, false, true, false, false, false], 0x0600, false), 7) := by decide +kernel

/-- L2-10 c. -/
theorem test_nmi_before_irq :
    sees [0xEA] (withBytes [(0xFFFB, 0x07)] { base with irqPending := true, nmiPending := true }) (fun t => (t.read 0x01FB, t.pc, t.nmiPending :: t.irqPending :: bits t)) = some ((0x20, 0x0700, false :: true :: [false, false, true, false, false, false]), 7) := by decide +kernel

/-- L2-10 d. -/
theorem test_nmi_ignores_i :
    sees [0xEA] (withBytes [(0xFFFB, 0x07)] { base with nmiPending := true, p := { base.p with i := true } }) (fun t => (t.read 0x01FB, t.pc)) = some ((0x24, 0x0700), 7) := by decide +kernel

/-- L2-11 a: the fault, what it leaves, and its only access. -/
theorem test_decode_error :
    let s := ready [0x02] { base with pc := 0x0403 }
    faultOf s = some (.decodeError 0x02 0x0403) ∧
      afterStep s = { s with pc := 0x0404, fault := some { opcode := 0x02, addr := 0x0403 } } ∧
      stepAccesses s = [.read 0x0403 0x02] := by decide +kernel

/-- L2-11 b and L2-10 f: a latched fault is returned again and nothing else happens, whatever is pending. -/
theorem test_latched_fault :
    let s := { base with pc := 0x0404, nmiPending := true, fault := some { opcode := 0x02, addr := 0x0403 } }
    faultOf s = some (.decodeError 0x02 0x0403) ∧ afterStep s = s ∧ stepAccesses s = [] := by decide +kernel

/-- L2-11 c and L2-12 a. -/
theorem test_reset :
    let s := withBytes [(0xFFFD, 0x04)] { base with a := 1, x := 2, y := 3, sp := 4, fault := some { opcode := 2, addr := 3 } }
    hostReset s = { s with
      a := 0, x := 0, y := 0, sp := 0xFD, pc := 0x0400, fault := none, p := { base.p with i := true } } := by decide +kernel

/-- L2-12 b. -/
theorem test_reset_parameters :
    let t := hostReset { base with cfg := { base.cfg with resetS := 0xFF, resetI := false } }
    (t.sp, t.p.i) = (0xFF, false) := by decide +kernel

/-- L2-11 e. -/
theorem test_run_zero : (run 0 base).state = base ∧ (run 0 base).total = 0 := by decide +kernel

/-- L2-11 f, seen one step at a time: the second step faults. -/
theorem test_run_fault :
    let r := run 100 (ready [0xEA, 0x02] base)
    r.total = 2 ∧ r.state.fault = some { opcode := 0x02, addr := 0x0401 } := by decide +kernel

/-- L2-11 d: the third step overshoots the budget. -/
theorem test_run_overshoots : (run 5 (ready [0xA2, 0x05, 0xA9, 0x00, 0x18, 0x69] base)).total = 6 := by decide +kernel

/-- R290: the image, then the vector, then Reset. -/
theorem test_load :
    let t := hostLoad [0xA9, 0x07] 0x0400 0x0400 State.reset
    (t.pc, [t.read 0x0400, t.read 0x0401, t.read 0xFFFC, t.read 0xFFFD]) = (0x0400, [0xA9, 0x07, 0x00, 0x04]) := by decide +kernel

/-- The accesses of STA ($20),Y in order (R85, R96, R100, R143): no read of the address stored to. -/
theorem test_store_accesses :
    stepAccesses (ready [0x91, 0x20] (withBytes [(0x0021, 0x20)] { base with a := 7, y := 1 })) =
      [.read 0x0400 0x91, .read 0x0401 0x20, .read 0x0020 0x00, .read 0x0021 0x20, .write 0x2001 0x07] := by decide +kernel

/-- The accesses of BRK in order (R237): the byte after the opcode is not read. -/
theorem test_brk_accesses :
    stepAccesses (ready [0x00, 0xFF] base) =
      [.read 0x0400 0x00, .write 0x01FD 0x04, .write 0x01FC 0x02, .write 0x01FB 0x30, .read 0xFFFE 0x00,
        .read 0xFFFF 0x00] := by decide +kernel

/-- R281: Reset reads 0xFFFC and then 0xFFFD, and nothing else. -/
theorem test_reset_accesses :
    resetAccesses (withBytes [(0xFFFC, 0x34), (0xFFFD, 0x12)] base) = [.read 0xFFFC 0x34, .read 0xFFFD 0x12] := by
  decide +kernel

/-- A backing that answers its reads from a list, whatever their addresses, and takes every write without a trace. -/
def scripted : Backing (List Byte) where
  answer l _ := (l.headD 0, l.tail)
  accept l _ _ := l

/-- R59: the read of 0x0400 as an opcode and the read of 0x0400 as data are answered differently, and A is the second answer. -/
theorem test_reads_need_not_agree :
    let r := (busStep base).serve scripted [0xAD, 0x00, 0x04, 0x55]
    r.1 = [.read 0x0400 0xAD, .read 0x0401 0x00, .read 0x0402 0x04, .read 0x0400 0x55] ∧ r.2.1 = [] ∧
      (r.2.2.1.a, r.2.2.1.pc) = (0x55, 0x0403) := by decide +kernel

/-- R56, R59: INC on a device reads it once and writes it once. -/
theorem test_device_sees_one_read_and_one_write :
    let r := (busStep base).serve scripted [0xE6, 0x30, 0x7F]
    r.1 = [.read 0x0400 0xE6, .read 0x0401 0x30, .read 0x0030 0x7F, .write 0x0030 0x80] ∧ bits r.2.2.1 = bits
      { base with p := { base.p with n := true } } := by decide +kernel

/-- R281 with a backing that counts its reads: Reset makes two. -/
theorem test_reset_of_a_device :
    let r := (busReset base).serve scripted [0x34, 0x12, 0x99]
    r.1 = [.read 0xFFFC 0x34, .read 0xFFFD 0x12] ∧ r.2.1 = [0x99] ∧ (r.2.2.pc, r.2.2.p.i) = (0x1234, true) := by
  decide +kernel

/-- withFetchWord makes the next step run its word, also from reset. -/
theorem test_with_fetch_word :
    (after (State.reset.withFetchWord 16 0x80A9)).map (fun t => (t.a, t.pc, t.p.n)) = some (0x80, 0x0002, true) := by
  decide +kernel

/-- Log entry 5: from reset with nothing placed, the first step executes the BRK that an empty memory reads as. -/
theorem test_step_from_reset :
    (after State.reset).map (fun t => ([t.read 0x01FD, t.read 0x01FC, t.read 0x01FB, t.sp], t.pc)) =
      some ([0x00, 0x02, 0x34, 0xFA], 0x0000) := by decide +kernel

/-! ### Witnesses: for every statement with hypotheses, a state and operands that meet them, per clause. -/

theorem witness_EncodingADecodingGivesTheBytesBack : decode [0xA9, 0x80, 0xEA] = .instr (.ldaImmediate 0x80) [0xEA] := by
  decide +kernel

theorem witness_UnmappedBytesAreRejectedByName : decode [0x02] = .unmapped 0x02 ∧ decode [0xFF] = .unmapped 0xFF ∧
    decode [0x00] ≠ .unmapped 0x00 := by decide +kernel

theorem witness_FormsAreThoseOfTheInstructions : Form.wf (Instr.form .brk) = true ∧
    Form.wf { op := .STA, operand := .immediate 1 } = false := by decide

theorem witness_LengthIsFixedByTheMode : Instr.operand .rorAccumulator = .accumulator ∧ Instr.operand .rts = .implied ∧
    (Instr.ldaImmediate 1).operand.mode = .immediate ∧ (Instr.bne 1).operand.mode = .relative ∧
    (Instr.jmpIndirect 1).operand.mode = .indirect := by decide

/-- A penalised read that crosses, one that does not, a taken branch that crosses, and a store. -/
theorem witness_PageCrossCostByClass :
    (resolve (Instr.ldaAbsoluteX 0x20FF).operand { base with x := 1 }).2 = true ∧
    (resolve (Instr.ldaAbsoluteX 0x20FF).operand { base with x := 0 }).2 = false ∧
    branchTaken (.bne 0x7F) { base with pc := 0x0480 } = true ∧
    (resolve (Instr.bne 0x7F).operand { base with pc := 0x0480 }).2 = true ∧
    (Instr.staAbsoluteX 0x20FF).mnemonic = .STA ∧ (Instr.staAbsoluteX 0x20FF).operand.mode = .absoluteX := by decide +kernel

/-- The last sum that does not cross and the first that does. -/
theorem witness_AbsoluteAddressesAndTheirCrossings :
    (MemRef.absoluteX 0x10FF).crossed { base with x := 0 } = false ∧ (MemRef.absoluteX 0x10FF).crossed { base with x := 1 } = true ∧
    (MemRef.absoluteY 0x1000).crossed { base with y := 0xFF } = false ∧
    (MemRef.absoluteY 0x1001).crossed { base with y := 0xFF } = true := by decide +kernel

theorem witness_IndirectTargetsFollowTheWrapParameter : base.cfg.jmpIndPageWrap = false ∧
    { base.cfg with jmpIndPageWrap := true }.jmpIndPageWrap = true := by decide

theorem witness_ZeroPagePointerAddresses :
    (MemRef.indirectY 0x20).crossed (withBytes [(0x0020, 0xFF)] { base with y := 0 }) = false ∧
    (MemRef.indirectY 0x20).crossed (withBytes [(0x0020, 0xFF)] { base with y := 1 }) = true := by decide +kernel

theorem witness_ImmediateOperandsAreInTheInstructionStream :
    fetchInstr (ready [0xA9, 0x80] base) = some (.ldaImmediate 0x80) ∧ (Instr.ldaImmediate 0x80).operand = .immediate 0x80 := by
  decide +kernel

theorem witness_OnlyIndexedModesCross : (resolve (.relative 0x80) base).2 = true ∧ (resolve .implied base).1 = none := by
  decide +kernel

/-- With no request, and with a masked one. -/
theorem witness_AStepExecutesTheFetchedInstruction :
    let s := ready [0xA9, 0x80, 0x00] base
    let m := { s with irqPending := true, p := { s.p with i := true } }
    (s.fault = none ∧ s.nmiPending = false ∧ (s.irqPending = true → s.p.i = true)) ∧
    (m.fault = none ∧ m.nmiPending = false ∧ (m.irqPending = true → m.p.i = true)) ∧
    decode [s.read s.pc, s.read (s.pc + 1), s.read (s.pc + 2)] = .instr (.ldaImmediate 0x80) [0x00] := by decide +kernel

theorem witness_UnmappedOpcodesFault :
    let s := ready [0x02] base
    s.fault = none ∧ s.nmiPending = false ∧ (s.irqPending = true → s.p.i = true) ∧ opcodeEntry (s.read s.pc) = none := by
  decide +kernel

theorem witness_FaultedCoresDoNothingUntilReset :
    { base with fault := some { opcode := 0x02, addr := 0x0403 } }.fault = some { opcode := 0x02, addr := 0x0403 } := by decide

/-- One state for each of the four clauses. -/
theorem witness_TheInterruptCheckDecidesEachStep :
    let n := { base with nmiPending := true }
    let q := { base with irqPending := true }
    let k := ready [0xEA] { base with irqPending := true, p := { base.p with i := true } }
    let m := { base with irqPending := true, p := { base.p with i := true }, cfg := { base.cfg with irqMaskedDiscard := true } }
    (n.fault = none ∧ n.nmiPending = true) ∧
    (q.fault = none ∧ q.nmiPending = false ∧ q.irqPending = true ∧ q.p.i = false) ∧
    (m.fault = none ∧ m.nmiPending = false ∧ m.irqPending = true ∧ m.p.i = true ∧ m.cfg.irqMaskedDiscard = true) ∧
    (k.fault = none ∧ k.nmiPending = false ∧ k.irqPending = true ∧ k.p.i = true ∧ k.cfg.irqMaskedDiscard = false ∧
      fetchInstr k = some .nop) := by decide +kernel

theorem witness_CliLetsAPendingIrqInAtOnce :
    let s := { base with irqPending := true, p := { base.p with i := true } }
    s.fault = none ∧ s.nmiPending = false ∧ s.irqPending = true := by decide

/-- Every form is reached: the statements quantify over all instructions of a mnemonic. -/
theorem witness_LoadsTakeTheOperandAndSetZN : (Instr.ldaIndirectY 0xFF).mnemonic = .LDA ∧
    (Instr.ldxZeroPageY 0xFF).mnemonic = .LDX ∧ (Instr.ldyAbsoluteX 0xFFFF).mnemonic = .LDY := by decide

theorem witness_StoresWriteTheRegisterAndNoFlag :
    ((Instr.staIndirectX 0xFF).mnemonic = .STA ∧ base.a = base.a) ∧ ((Instr.stxZeroPageY 0xFF).mnemonic = .STX ∧ base.x = base.x) ∧
    ((Instr.styAbsolute 0xFFFF).mnemonic = .STY ∧ base.y = base.y) := by decide

theorem witness_AdcAddsWithCarryInBinary : (Instr.adcImmediate 0x80).mnemonic = .ADC ∧ (Instr.adcIndirectY 0xFF).mnemonic = .ADC := by
  decide

theorem witness_SbcSubtractsWithBorrowInBinary : (Instr.sbcImmediate 0x80).mnemonic = .SBC ∧
    (Instr.sbcIndirectX 0xFF).mnemonic = .SBC := by decide

theorem witness_LogicalOperationsOnA : (Instr.andImmediate 0x0F).mnemonic = .AND ∧ (Instr.oraAbsoluteY 0xFFFF).mnemonic = .ORA ∧
    (Instr.eorIndirectX 0xFF).mnemonic = .EOR := by decide

theorem witness_ComparesWriteCarryZeroNegative : (Instr.cmpIndirectY 0xFF).mnemonic = .CMP ∧
    (Instr.cpxImmediate 0x42).mnemonic = .CPX ∧ (Instr.cpyAbsolute 0xFFFF).mnemonic = .CPY := by decide

theorem witness_BitTestsTheMemoryOperand : (Instr.bitZeroPage 0x10).mnemonic = .BIT ∧ (Instr.bitAbsolute 0xFFFF).mnemonic = .BIT := by
  decide

theorem witness_IncAndDecModifyMemory : (Instr.incZeroPageX 0xFF).mnemonic = .INC ∧ (Instr.decAbsoluteX 0xFFFF).mnemonic = .DEC := by
  decide

/-- Both shapes of target, for each of the four operations. -/
theorem witness_ShiftsAndRotatesOfTheTarget :
    (Instr.mnemonic .aslAccumulator = .ASL ∧ Instr.mnemonic .lsrAccumulator = .LSR ∧ Instr.mnemonic .rolAccumulator = .ROL ∧
      Instr.mnemonic .rorAccumulator = .ROR) ∧
    ((Instr.aslZeroPage 0xFF).mnemonic = .ASL ∧ (Instr.lsrZeroPageX 0xFF).mnemonic = .LSR ∧
      (Instr.rolAbsolute 0xFFFF).mnemonic = .ROL ∧ (Instr.rorAbsoluteX 0xFFFF).mnemonic = .ROR) := by decide

/-- Each branch with its flag as it takes it; the largest displacements both ways. -/
theorem witness_BranchesReplacePcWhenTheirFlagHolds :
    let f := { c := true, z := true, i := false, d := false, v := true, n := true : Flags }
    (Instr.bpl 0x7F = .bpl 0x7F ∧ true = !base.p.n) ∧ (Instr.bmi 0x80 = .bmi 0x80 ∧ true = f.n) ∧
    (Instr.bvc 0x7F = .bvc 0x7F ∧ true = !base.p.v) ∧ (Instr.bvs 0x80 = .bvs 0x80 ∧ true = f.v) ∧
    (Instr.bcc 0x7F = .bcc 0x7F ∧ true = !base.p.c) ∧ (Instr.bcs 0x80 = .bcs 0x80 ∧ true = f.c) ∧
    (Instr.bne 0x7F = .bne 0x7F ∧ true = !base.p.z) ∧ (Instr.beq 0x80 = .beq 0x80 ∧ true = f.z) := by decide

theorem witness_PushesWriteTheStackByte : (Instr.pha = .pha ∧ base.a = base.a) ∧
    (Instr.php = .php ∧ base.p.status true = 0x30) := by decide

theorem witness_PullsTakeTheStackByte :
    (withBytes [(0x01FE, 0xCF)] base).read (w16 base.cfg.stackPage (base.sp + 1)) = 0xCF := by decide +kernel

theorem witness_PushesWrapTheWholeStackPage : (List.replicate 256 (0x5A : Byte)).length = 256 := List.length_replicate

theorem witness_BrkEntersTheHandler :
    ({ base.cfg with brkReturnOffset := .one }.brkReturnOffset = .one ∧ (0x0401 : Word) = base.pc + 1) ∧
    (base.cfg.brkReturnOffset = .two ∧ (0x0402 : Word) = base.pc + 2) := by decide

theorem witness_DecimalModeIsInert : (Instr.adcImmediate 1).mnemonic ∉ [Mnemonic.PHP, .BRK] ∧
    Instr.mnemonic .plp ∉ [Mnemonic.PHP, .BRK] := by decide

/-- Every instruction has a next state from every state, so that the frames are about something. -/
theorem witness_FlagsChangeOnlyByTheirWriters : ∃ t, exec .sec base = .next t ∧ t.p.c = true := ⟨_, rfl, rfl⟩

theorem witness_RegistersChangeOnlyByTheirWriters : ∃ t, exec .rolAccumulator { base with a := 1 } = .next t ∧ t.a = 2 :=
  ⟨_, rfl, by decide +kernel⟩

/-- One witness for each clause: a store, a push, JSR, BRK, and a form that stores nothing. -/
theorem witness_MemoryChangesOnlyWhereStored :
    (∃ t, exec (.rorZeroPage 0x40) base = .next t ∧ (resolve (Instr.rorZeroPage 0x40).operand base).1 = some 0x0040) ∧
    (∃ t, exec .pha base = .next t) ∧ (∃ t, exec (.jsr 0xFFFF) base = .next t) ∧ (∃ t, exec .brk base = .next t) ∧
    (∃ t, exec .rorAccumulator base = .next t) :=
  ⟨⟨_, rfl, by decide +kernel⟩, ⟨_, rfl⟩, ⟨_, rfl⟩, ⟨_, rfl⟩, ⟨_, rfl⟩⟩

/-- A sound state whose step goes on, and one whose step faults. -/
theorem witness_StepsKeepStatesSound :
    (base.Sound ∧ (after base).isSome = true) ∧
    ((ready [0x02] base).Sound ∧ faultOf (ready [0x02] base) = some (.decodeError 0x02 0x0400)) := by decide +kernel

/-- An address outside an image; an image of the whole space; one that ends at the last byte; and bytes on both sides of the
vector. -/
theorem witness_LoadedProgramsStartAtTheirEntry :
    ((0x1000 : Word) ≠ 0xFFFC ∧ (0x1000 : Word) ≠ 0xFFFD ∧
      ∀ k : Nat, k < [(1 : Byte), 2].length → (0x1000 : Word) ≠ 0x0400 + BitVec.ofNat 16 k) ∧
    (0 : Word).toNat + (List.replicate 0x10000 (1 : Byte)).length ≤ 0x10000 ∧
    (0xFFFE : Word).toNat + [(1 : Byte), 2].length ≤ 0x10000 ∧
    ((0 : Word).toNat + 0xFFFB ≠ 0xFFFC ∧ (0 : Word).toNat + 0xFFFB ≠ 0xFFFD) ∧
    ((0xFFFE : Word).toNat + 1 ≠ 0xFFFC ∧ (0xFFFE : Word).toNat + 1 ≠ 0xFFFD) := by
  refine ⟨by decide, ?_, by decide, by decide, by decide⟩
  rw [List.length_replicate]
  decide

/-- A budget spent, a budget that a step costs more than, and a budget under which a step faults. -/
theorem witness_RunUnfoldsStepByStep :
    ((0 : Int) ≤ 0) ∧ ((0 : Int) < 1 ∧ stepCost (ready [0xEA] base) = 2 ∧ (after (ready [0xEA] base)).isSome = true ∧
      (run 1 (ready [0xEA] base)).total = 2) ∧
    ((0 : Int) < 1 ∧ faultOf (ready [0x02] base) = some (.decodeError 0x02 0x0400)) := by decide +kernel

theorem witness_EqualReadsMakeEqualMemories : Memory.wf [(0, 1), (0xFFFF, 0xFF)] ∧
    Memory.write (Memory.write [] 0xFFFF 0xFF) 0 1 = [(0, 1), (0xFFFF, 0xFF)] := by decide +kernel

end Sys2Proof.Tests
end

section
/-! The invariant of a step (00_scope.md R10, 10_state.md section 6, 20_memory.md sections 1 and 4): what the interrupt check, an
interrupt entry, an instruction and a fault each keep, and the two statements about sound states assembled from that. -/

namespace Sys2Proof.Machine

/-- The state a step goes on from once the interrupt check has decided. -/
def Boundary.state : Boundary → State
  | .service _ t => t
  | .proceed t => t

/-- The interrupt check writes nothing but the requests (R252-R254). -/
theorem interruptCheck_keeps (s : State) :
    (interruptCheck s).state.mem = s.mem ∧ (interruptCheck s).state.fault = s.fault ∧
      (interruptCheck s).state.cfg = s.cfg := by
  rcases interruptCheck_cases s with ⟨-, hc⟩ | ⟨-, -, -, hc⟩ | ⟨-, -, hc⟩ <;> rw [hc] <;> exact ⟨rfl, rfl, rfl⟩

theorem interruptCheck_sound {s : State} (h : s.Sound) : (interruptCheck s).state.Sound := by
  obtain ⟨hm, hf, -⟩ := interruptCheck_keeps s
  exact ⟨hm ▸ h.1, hf ▸ h.2⟩

/-- Every instruction answers a next state, and no instruction writes the requests, the latch or the parameters (R31, R32, R251):
each meaning updates other fields of the state. -/
theorem exec_frame (i : Instr) (s : State) : ∃ t : State, exec i s = .next t ∧ t.irqPending = s.irqPending ∧
    t.nmiPending = s.nmiPending ∧ t.fault = s.fault ∧ t.cfg = s.cfg := by
  cases i <;> exact ⟨_, rfl, rfl, rfl, rfl, rfl⟩

theorem exec_sound {i : Instr} {s t : State} (h : exec i s = .next t) (hs : s.Sound) : t.Sound ∧ t.cfg = s.cfg := by
  obtain ⟨u, hu, -, -, hfault, hcfg⟩ := exec_frame i s
  obtain rfl : u = t := Host.Outcome.next.inj (hu.symm.trans h)
  exact ⟨⟨exec_wf h hs.1, hfault.trans hs.2⟩, hcfg⟩

theorem interruptEntry_sound {s : State} (vec : Word) (hs : s.Sound) : (interruptEntry vec s).Sound :=
  ⟨enterHandler_wf hs.1 _ _ _, (interruptEntry_fault vec s).trans hs.2⟩

/-- A step that goes on keeps the invariant, whether it serviced an interrupt or executed an instruction. -/
theorem step_sound {s t : State} (h : step s = .next t) (hs : s.Sound) : t.Sound ∧ t.cfg = s.cfg := by
  have hb := interruptCheck_sound hs
  obtain ⟨-, -, hcfg⟩ := interruptCheck_keeps s
  obtain ⟨-, ⟨vec, u, hc, rfl⟩ | ⟨u, i, hc, -, hx⟩⟩ := step_next_cases h <;> rw [hc] at hb hcfg
  · exact ⟨interruptEntry_sound vec hb, (interruptEntry_cfg vec u).trans hcfg⟩
  · obtain ⟨ht, htcfg⟩ := exec_sound hx hb
    exact ⟨ht, htcfg.trans hcfg⟩

/-- A faulting step writes neither memory nor the parameters (R123, R126). -/
theorem faultedState_keeps (s : State) : (faultedState s).mem = s.mem ∧ (faultedState s).cfg = s.cfg := by
  obtain ⟨hm, -, hcfg⟩ := interruptCheck_keeps s
  unfold faultedState
  split
  · exact ⟨rfl, rfl⟩
  · split <;> next hc => rw [hc] at hm hcfg; exact ⟨hm, hcfg⟩

theorem afterStep_of_fault {s : State} {f : Fault} (h : step s = .fault f) : afterStep s = faultedState s := by
  simp only [afterStep, h]

/-- Settles O53: the going-on half is `step_sound`, the faulting half that a fault leaves memory as it was. -/
theorem stepsKeepStatesSound : Obligations.StepsKeepStatesSound := by
  intro s hs
  refine ⟨fun t h => step_sound h hs, fun f h => ?_⟩
  obtain ⟨hm, hcfg⟩ := faultedState_keeps s
  rw [afterStep_of_fault h]
  exact ⟨hm ▸ hs.1, hcfg⟩

/-- Settles O54: the reset state lists no memory and latches nothing, and it is the Reset of R280 on the construction state of R35
field by field. -/
theorem theResetStateIsSound : Obligations.TheResetStateIsSound :=
  ⟨⟨Memory.empty_wf, rfl⟩, rfl⟩

end Sys2Proof.Machine
end

section
/-! What an instruction leaves, said once for each kind of operation (R56, R58), and from it the frames of the registers and the
flags (10_state.md sections 1 to 3), with the layout of the status byte (R27, R28). -/

namespace Sys2Proof.Machine

/-- `Effect o s act t`: an instruction of the action `act` and the operand `o`, started in `s` with PC at its
opcode, can leave `t`. -/
inductive Effect (o : Operand) (s : State) : Action → State → Prop where
  /-- The operation runs on the operand byte (R87, R100). -/
  | read {op : Byte → State → State} {v : Byte} (hv : operandByte o s = some v) :
      Effect o s (.read op) (op v (s.past o.mode))
  /-- One byte is written at the effective address (R143-R145). -/
  | store {val : State → Byte} {ea : Word} (hea : (resolve o s).1 = some ea) :
      Effect o s (.store val) ((s.past o.mode).write ea (val s))
  /-- A and the flags take the result (R97, R190). -/
  | modifyAccumulator {f : Byte → Flags → Byte × Flags} (ho : o = .accumulator) :
      Effect o s (.modify f) { s.past o.mode with a := (f s.a s.p).1, p := (f s.a s.p).2 }
  /-- The byte at the effective address and the flags take the result (R190). -/
  | modifyMemory {f : Byte → Flags → Byte × Flags} {r : MemRef} (ho : o = .memory r) :
      Effect o s (.modify f) { (s.past o.mode).write (r.ea s) (f (s.read (r.ea s)) s.p).1 with
        p := (f (s.read (r.ea s)) s.p).2 }
  /-- PC takes the target or goes on to the next instruction (R210). -/
  | branch {cond : Flags → Bool} {d : Byte} (ho : o = .relative d) :
      Effect o s (.branch cond) { s with pc := if cond s.p then branchTarget d s else s.pc + 2 }
  /-- PC takes the effective address (R219). -/
  | jump {ea : Word} (hea : (resolve o s).1 = some ea) : Effect o s .jump { s with pc := ea }
  /-- The return address is pushed and PC takes the effective address (R220). -/
  | call {ea : Word} (hea : (resolve o s).1 = some ea) : Effect o s .call (jsrOp ea (s.past o.mode))
  /-- The operation runs on registers and flags. -/
  | inner {op : State → State} : Effect o s (.inner op) (op (s.past o.mode))
  /-- One byte is pushed (R233, R234). -/
  | push {val : State → Byte} : Effect o s (.push val) ((s.past o.mode).push (val s))
  /-- The operation runs on the byte pulled (R235, R236). -/
  | pull {op : Byte → State → State} : Effect o s (.pull op) (op s.top (s.past o.mode).popped)
  /-- RTS (R221). -/
  | callerReturn : Effect o s .callerReturn (rtsOp (s.past o.mode))
  /-- BRK (R237). -/
  | softEntry : Effect o s .softEntry (brkOp (s.past o.mode))
  /-- RTI (R238). -/
  | handlerReturn : Effect o s .handlerReturn (rtiOp (s.past o.mode))

/-- Everything an instruction can do: the effect of its operation's action on its operand. Each constructor's
meaning is one of the shapes of `Effect` by definition. -/
theorem exec_effect {i : Instr} {s t : State} (h : exec i s = .next t) :
    Effect i.operand s (Action.of i.mnemonic) t := by
  cases i <;> cases h <;> constructor <;> rfl

/-- The table of R26: which flags an operation may change, from `f` before it to `g` after it. -/
def FlagFrame (op : Mnemonic) (f g : Flags) : Prop :=
  (g.c = f.c ∨ op ∈ [Mnemonic.ADC, .SBC, .ASL, .LSR, .ROL, .ROR, .CMP, .CPX, .CPY, .CLC, .SEC, .PLP, .RTI]) ∧
  (g.z = f.z ∧ g.n = f.n ∨ op ∈
    [Mnemonic.ADC, .SBC, .AND, .ORA, .EOR, .BIT, .ASL, .LSR, .ROL, .ROR, .CMP, .CPX, .CPY, .INC, .DEC,
      .INX, .INY, .DEX, .DEY, .LDA, .LDX, .LDY, .TAX, .TAY, .TXA, .TYA, .TSX, .PLA, .PLP, .RTI]) ∧
  (g.i = f.i ∨ op ∈ [Mnemonic.CLI, .SEI, .BRK, .PLP, .RTI]) ∧
  (g.d = f.d ∨ op ∈ [Mnemonic.CLD, .SED, .PLP, .RTI]) ∧
  (g.v = f.v ∨ op ∈ [Mnemonic.ADC, .SBC, .BIT, .CLV, .PLP, .RTI])

/-- Each case holds the operations that write the same flags; the columns are C, then Z with N, then I, D and V. -/
theorem Effect.flagFrame {op : Mnemonic} {o : Operand} {s t : State} (h : Effect o s (Action.of op) t) :
    FlagFrame op s.p t.p := by
  cases op
  case STA | STX | STY | TXS | NOP | BPL | BMI | BVC | BVS | BCC | BCS | BNE | BEQ | JMP | JSR | RTS | PHA | PHP =>
    cases h; exact ⟨.inl rfl, .inl ⟨rfl, rfl⟩, .inl rfl, .inl rfl, .inl rfl⟩
  case LDA | LDX | LDY | TAX | TAY | TXA | TYA | TSX | AND | ORA | EOR | INC | DEC | INX | INY | DEX | DEY | PLA =>
    cases h <;> exact ⟨.inl rfl, .inr (by decide), .inl rfl, .inl rfl, .inl rfl⟩
  case CMP | CPX | CPY | ASL | LSR | ROL | ROR =>
    cases h <;> exact ⟨.inr (by decide), .inr (by decide), .inl rfl, .inl rfl, .inl rfl⟩
  case ADC | SBC => cases h; exact ⟨.inr (by decide), .inr (by decide), .inl rfl, .inl rfl, .inr (by decide)⟩
  case BIT => cases h; exact ⟨.inl rfl, .inr (by decide), .inl rfl, .inl rfl, .inr (by decide)⟩
  case CLC | SEC => cases h; exact ⟨.inr (by decide), .inl ⟨rfl, rfl⟩, .inl rfl, .inl rfl, .inl rfl⟩
  case CLI | SEI | BRK => cases h; exact ⟨.inl rfl, .inl ⟨rfl, rfl⟩, .inr (by decide), .inl rfl, .inl rfl⟩
  case CLD | SED => cases h; exact ⟨.inl rfl, .inl ⟨rfl, rfl⟩, .inl rfl, .inr (by decide), .inl rfl⟩
  case CLV => cases h; exact ⟨.inl rfl, .inl ⟨rfl, rfl⟩, .inl rfl, .inl rfl, .inr (by decide)⟩
  case PLP | RTI =>
    exact ⟨.inr (by decide), .inr (by decide), .inr (by decide), .inr (by decide), .inr (by decide)⟩

/-- The writers of R20-R22, and the straight-line sentence of R24: which registers an operation with the operand `o` may change,
from `s` before it to `t` after it. -/
def RegisterFrame (op : Mnemonic) (o : Operand) (s t : State) : Prop :=
  (t.a = s.a ∨ op ∈ [Mnemonic.LDA, .PLA, .TXA, .TYA, .ADC, .SBC, .AND, .ORA, .EOR] ∨ o = .accumulator) ∧
  (t.x = s.x ∨ op ∈ [Mnemonic.LDX, .TAX, .TSX, .INX, .DEX]) ∧
  (t.y = s.y ∨ op ∈ [Mnemonic.LDY, .TAY, .INY, .DEY]) ∧
  (t.sp = s.sp ∨ op ∈ [Mnemonic.TXS, .JSR, .RTS, .PHA, .PHP, .PLA, .PLP, .BRK, .RTI]) ∧
  (t.pc = s.pc + BitVec.ofNat 16 o.mode.length ∨ o.mode = .relative ∨
    op ∈ [Mnemonic.JMP, .JSR, .RTS, .BRK, .RTI])

/-- Each case holds the operations that write the same registers; the columns are A, X, Y, S and PC. -/
theorem Effect.registerFrame {op : Mnemonic} {o : Operand} {s t : State} (h : Effect o s (Action.of op) t) :
    RegisterFrame op o s t := by
  cases op
  case STA | STX | STY | CMP | CPX | CPY | BIT | CLC | SEC | CLI | SEI | CLV | CLD | SED | NOP =>
    cases h; exact ⟨.inl rfl, .inl rfl, .inl rfl, .inl rfl, .inl rfl⟩
  case LDA | TXA | TYA | ADC | SBC | AND | ORA | EOR =>
    cases h; exact ⟨.inr (.inl (by decide)), .inl rfl, .inl rfl, .inl rfl, .inl rfl⟩
  case INC | DEC | ASL | LSR | ROL | ROR =>
    cases h
    case modifyAccumulator ho => exact ⟨.inr (.inr ho), .inl rfl, .inl rfl, .inl rfl, .inl rfl⟩
    case modifyMemory => exact ⟨.inl rfl, .inl rfl, .inl rfl, .inl rfl, .inl rfl⟩
  case LDX | TAX | TSX | INX | DEX => cases h; exact ⟨.inl rfl, .inr (by decide), .inl rfl, .inl rfl, .inl rfl⟩
  case LDY | TAY | INY | DEY => cases h; exact ⟨.inl rfl, .inl rfl, .inr (by decide), .inl rfl, .inl rfl⟩
  case TXS | PHA | PHP | PLP => cases h; exact ⟨.inl rfl, .inl rfl, .inl rfl, .inr (by decide), .inl rfl⟩
  case PLA => cases h; exact ⟨.inr (.inl (by decide)), .inl rfl, .inl rfl, .inr (by decide), .inl rfl⟩
  case BPL | BMI | BVC | BVS | BCC | BCS | BNE | BEQ =>
    cases h with
    | branch ho => exact ⟨.inl rfl, .inl rfl, .inl rfl, .inl rfl, .inr (.inl (ho ▸ rfl))⟩
  case JMP => cases h; exact ⟨.inl rfl, .inl rfl, .inl rfl, .inl rfl, .inr (.inr (by decide))⟩
  case JSR | RTS | BRK | RTI =>
    cases h; exact ⟨.inl rfl, .inl rfl, .inl rfl, .inr (by decide), .inr (.inr (by decide))⟩

/-- The status byte is the number its flags write in binary, with bit 5 set and the break bit as bit 4 (R27; D1). -/
theorem status_toNat (f : Flags) (b : Bool) : (f.status b).toNat =
    128 * f.n.toNat + 64 * f.v.toNat + 32 + 16 * b.toNat + 8 * f.d.toNat + 4 * f.i.toNat + 2 * f.z.toNat + f.c.toNat := by
  obtain ⟨c, z, i, d, v, n⟩ := f
  cases n <;> cases v <;> cases b <;> cases d <;> cases i <;> cases z <;> cases c <;> rfl

/-- Two words agree under a mask exactly where they agree at every bit of the mask. -/
theorem and_mask_eq_iff {w : Nat} (m p q : BitVec w) :
    p &&& m = q &&& m ↔ ∀ k, m.getLsbD k = true → p.getLsbD k = q.getLsbD k := by
  refine ⟨fun h k hk => by simpa [hk] using congrArg (·.getLsbD k) h, fun h => BitVec.eq_of_getLsbD_eq fun k _ => ?_⟩
  rw [BitVec.getLsbD_and, BitVec.getLsbD_and]
  cases hm : m.getLsbD k with
  | false => rw [Bool.and_false, Bool.and_false]
  | true => rw [h k hm]

/-- What a pull restores depends on bits 7, 6, 3, 2, 1 and 0 alone (R28; D2). -/
theorem restoreFlags_eq_iff (p q : Byte) : restoreFlags p = restoreFlags q ↔ p &&& 0xCF = q &&& 0xCF := by
  rw [and_mask_eq_iff]
  constructor
  · intro h k hk
    match k, hk with
    | 0, _ => exact congrArg Flags.c h
    | 1, _ => exact congrArg Flags.z h
    | 2, _ => exact congrArg Flags.i h
    | 3, _ => exact congrArg Flags.d h
    | 6, _ => exact congrArg Flags.v h
    | 7, _ => exact congrArg Flags.n h
    | 4, hk | 5, hk => cases hk
    | k + 8, hk => exact absurd (BitVec.lt_of_getLsbD hk) (by omega)
  · intro h
    simp only [restoreFlags, h 0 rfl, h 1 rfl, h 2 rfl, h 3 rfl, h 6 rfl, h 7 rfl]

/-- Settles O47: the layout, the bits a pull looks at, and the round trip. -/
theorem statusByteLayout : Obligations.StatusByteLayout :=
  fun f b p q => ⟨status_toNat f b, restoreFlags_eq_iff p q, restoreFlags_status f b⟩

/-- Settles O49: the frame of the flags, for the effect of the instruction. -/
theorem flagsChangeOnlyByTheirWriters : Obligations.FlagsChangeOnlyByTheirWriters :=
  fun _ _ _ h => (exec_effect h).flagFrame

/-- Settles O50: the frame of the registers, for the effect of the instruction. -/
theorem registersChangeOnlyByTheirWriters : Obligations.RegistersChangeOnlyByTheirWriters :=
  fun _ _ _ h => (exec_effect h).registerFrame

end Sys2Proof.Machine
end

section
/-! The canonical form of memory (20_memory.md R50): it is determined by the bytes it reads as. -/

namespace Sys2Proof.Machine

/-- A memory in canonical form lists exactly the bytes that differ from what an unlisted address reads as. -/
theorem Memory.mem_iff_lookup {m : Memory} (h : m.wf) {a : Nat} {v : Byte} :
    (a, v) ∈ m ↔ m.lookup a = v ∧ v ≠ unlistedByte := by
  induction m with
  | nil => exact ⟨nofun, fun ⟨hl, hv⟩ => absurd hl.symm hv⟩
  | cons c m ih =>
    obtain ⟨k, w⟩ := c
    obtain ⟨hp, hb⟩ := h
    obtain ⟨hk, hp⟩ := List.pairwise_cons.mp hp
    have ih := ih ⟨hp, fun c hc => hb c (.tail _ hc)⟩
    by_cases hka : k = a
    · subst hka
      have hw : w ≠ unlistedByte := (hb (k, w) (.head _)).2
      have hm : (k, v) ∉ m := fun hv => (hk _ hv).false
      simp only [Memory.lookup, List.mem_cons, hm, ↓reduceIte, Prod.mk.injEq, true_and, or_false]
      exact ⟨fun e => ⟨e.symm, e ▸ hw⟩, fun e => e.1.symm⟩
    · simp only [Memory.lookup, hka, List.mem_cons, ↓reduceIte, Prod.mk.injEq, Ne.symm hka, false_and, false_or, ih]

/-- Equal reads give equal cells. -/
theorem Memory.mem_of_read_eq {m n : Memory} (hm : m.wf) (hn : n.wf) (h : ∀ a : Word, m.read a = n.read a)
    {c : Host.Cell} (hc : c ∈ m) : c ∈ n := by
  have hl : m.lookup c.1 = n.lookup c.1 := by
    simpa only [Memory.read, BitVec.toNat_ofNat, Nat.mod_eq_of_lt (hm.2 c hc).1] using h (BitVec.ofNat 16 c.1)
  exact (Memory.mem_iff_lookup hn).mpr (hl ▸ (Memory.mem_iff_lookup hm).mp hc)

/-- Settles O59: the two lists have the same cells, and strictly rising lists with the same cells are the same list. -/
theorem equalReadsMakeEqualMemories : Obligations.EqualReadsMakeEqualMemories := by
  intro m n hm hn h
  have : Std.Asymm fun c d : Host.Cell => c.1 < d.1 := ⟨fun _ _ => lt_asymm⟩
  exact List.Subset.antisymm_of_pairwise hm.1 hn.1 (fun _ => Memory.mem_of_read_eq hm hn h)
    (fun _ => Memory.mem_of_read_eq hn hm fun a => (h a).symm)

end Sys2Proof.Machine
end

section
/-! The memory frame of an instruction (20_memory.md R56, R58): the addresses each operation stores to, and the stores of
41_load_store_transfer.md section 2. -/

namespace Sys2Proof.Machine

/-- The addresses an action with the operand `o` stores to (R56, R58). In Accumulator mode the resolver gives no address. -/
def Action.storesTo (act : Action) (o : Operand) (s : State) : List Word :=
  match act with
  | .store _ | .modify _ => (resolve o s).1.toList
  | .push _ => [w16 s.cfg.stackPage s.sp]
  | .call => [w16 s.cfg.stackPage s.sp, w16 s.cfg.stackPage (s.sp - 1)]
  | .softEntry => [w16 s.cfg.stackPage s.sp, w16 s.cfg.stackPage (s.sp - 1), w16 s.cfg.stackPage (s.sp - 2)]
  | .read _ | .branch _ | .jump | .inner _ | .pull _ | .callerReturn | .handlerReturn => []

/-- The operations whose action stores at the effective address, where there is one. -/
def operandWriters : List Mnemonic := [.STA, .STX, .STY, .INC, .DEC, .ASL, .LSR, .ROL, .ROR]

theorem storesTo_of_operandWriter {op : Mnemonic} (h : op ∈ operandWriters) (o : Operand) (s : State) :
    (Action.of op).storesTo o s = (resolve o s).1.toList := by
  revert op
  simp only [operandWriters, List.forall_mem_cons]
  exact ⟨rfl, rfl, rfl, rfl, rfl, rfl, rfl, rfl, rfl, nofun⟩

theorem storesTo_of_push {op : Mnemonic} (h : op ∈ [Mnemonic.PHA, .PHP]) (o : Operand) (s : State) :
    (Action.of op).storesTo o s = [w16 s.cfg.stackPage s.sp] := by
  obtain rfl | rfl := List.mem_pair.mp h <;> rfl

/-- Every other operation stores to no address. -/
theorem storesTo_eq_nil {op : Mnemonic} (h : op ∉ operandWriters ++ [.PHA, .PHP, .JSR, .BRK]) (o : Operand) (s : State) :
    (Action.of op).storesTo o s = [] := by
  cases op
  case STA | STX | STY | INC | DEC | ASL | LSR | ROL | ROR | PHA | PHP | JSR | BRK => exact absurd (by decide) h
  all_goals rfl

/-- Accumulator mode belongs to the shifts and rotates (R97, R190). -/
theorem mnemonic_mem_operandWriters_of_accumulator {i : Instr} (h : i.operand = .accumulator) :
    i.mnemonic ∈ operandWriters := by
  cases i <;> cases h <;> decide

/-- Entering a handler leaves every byte but the three pushed (R237, R256). -/
theorem enterHandler_read_other (brk : Bool) (ret vec : Word) (s : State) {b : Word} (h0 : b ≠ w16 s.cfg.stackPage s.sp)
    (h1 : b ≠ w16 s.cfg.stackPage (s.sp - 1)) (h2 : b ≠ w16 s.cfg.stackPage (s.sp - 2)) :
    (enterHandler brk ret vec s).read b = s.read b := by
  obtain ⟨-, -, -, hframe⟩ := State.pushFrame_reads s brk ret
  exact hframe b h0 h1 h2

/-- The memory frame of every operation: a byte at an address it does not store to reads as before. -/
theorem Effect.read_of_not_mem_storesTo {op : Mnemonic} {o : Operand} {s t : State} (h : Effect o s (Action.of op) t)
    {b : Word} (hb : b ∉ (Action.of op).storesTo o s) : t.read b = s.read b := by
  cases op
  case STA | STX | STY =>
    cases h with
    | store hea => exact Memory.read_write_other _ _ fun e => hb (Option.mem_toList.mpr (e ▸ hea))
  case INC | DEC | ASL | LSR | ROL | ROR =>
    cases h with
    | modifyAccumulator => rfl
    | modifyMemory ho => subst ho; exact Memory.read_write_other _ _ (List.ne_of_not_mem_cons hb)
  case PHA | PHP => cases h; exact State.read_push_other (s.past _) _ (List.ne_of_not_mem_cons hb)
  case JSR =>
    cases h
    obtain ⟨h0, h1⟩ := not_or.mp (mt List.mem_pair.mpr hb)
    exact (State.read_push_other _ _ h1).trans (State.read_push_other (s.past _) _ h0)
  case BRK =>
    cases h
    simp only [Action.of, Action.storesTo, List.mem_cons, List.not_mem_nil, or_false, not_or] at hb
    obtain ⟨h0, h1, h2⟩ := hb
    exact enterHandler_read_other _ _ _ (s.past _) h0 h1 h2
  all_goals cases h; rfl

/-- Settles O51: the memory frame of the instruction's effect, at the addresses its operation stores to. -/
theorem memoryChangesOnlyWhereStored : Obligations.MemoryChangesOnlyWhereStored := by
  intro i s t h
  have frame {b : Word} := (exec_effect h).read_of_not_mem_storesTo (b := b)
  refine ⟨fun ea hop hea b hb => frame ?_, fun hop b hb => frame ?_, fun hop b h0 h1 => frame ?_,
    fun hop b h0 h1 h2 => frame ?_, fun hop b => frame ?_⟩
  · rw [storesTo_of_operandWriter hop, hea]; simpa using hb
  · rw [storesTo_of_push hop]; simpa using hb
  · rw [hop]; simpa [Action.of, Action.storesTo] using ⟨h0, h1⟩
  · rw [hop]; simpa [Action.of, Action.storesTo] using ⟨h0, h1, h2⟩
  · obtain hop | hacc := hop
    · rw [storesTo_eq_nil hop]; exact List.not_mem_nil
    · rw [storesTo_of_operandWriter (mnemonic_mem_operandWriters_of_accumulator hacc), hacc]; exact List.not_mem_nil

/-- A store has a memory operand (R143-R145). -/
theorem operand_of_store {i : Instr} {val : State → Byte} (h : Action.of i.mnemonic = .store val) :
    ∃ r, i.operand = .memory r := by
  cases i <;> cases h <;> exact ⟨_, rfl⟩

/-- No row of a store pays for a page crossing (D15). -/
theorem penalty_of_store {b : Byte} {e : Entry} (h : opcodeEntry b = some e) (hop : e.op ∈ [Mnemonic.STA, .STX, .STY]) :
    e.penalty = .no := by
  have rows : ∀ r ∈ opcodeRows, r.2.op ∈ [Mnemonic.STA, .STX, .STY] → r.2.penalty = .no := by decide +kernel
  exact rows (b, e) (opcodeEntry_mem h) hop

theorem instrExtra_of_store {i : Instr} (h : i.mnemonic ∈ [Mnemonic.STA, .STX, .STY]) (s : State) : instrExtra i s = 0 := by
  obtain ⟨e, he, hop, -⟩ := opcodeEntry_opcode i
  simp only [instrExtra, he, penalty_of_store he (hop ▸ h), extraCycles]

/-- Settles O23: the effect of a store on its memory operand, with the rows of the table for the cost. -/
theorem storesWriteTheRegisterAndNoFlag : Obligations.StoresWriteTheRegisterAndNoFlag := by
  intro i s v h
  obtain ⟨val, hact, rfl, hop⟩ : ∃ val : State → Byte, Action.of i.mnemonic = .store val ∧ v = val s ∧
      i.mnemonic ∈ [Mnemonic.STA, .STX, .STY] := by
    obtain ⟨h, rfl⟩ | ⟨h, rfl⟩ | ⟨h, rfl⟩ := h <;> rw [h] <;> exact ⟨_, rfl, rfl, by decide⟩
  obtain ⟨r, hr⟩ := operand_of_store hact
  obtain ⟨t, ht, -⟩ := exec_frame i s
  have heff := exec_effect ht
  rw [hact, hr] at heff
  cases heff with
  | store hea =>
    obtain rfl := Option.some.inj hea
    refine ⟨r, _, _, hr, by rw [hr]; rfl, ht, ?_, Memory.read_write_same _ _ _,
      fun b hb => Memory.read_write_other _ _ hb, ?_, instrExtra_of_store hop s⟩
    · rw [Instr.length, hr]; rfl
    · simp only [instrAccesses, hr, hact, memoryAccesses, List.append_assoc]

end Sys2Proof.Machine
end

section
/-! The step as a program at the memory interface (20_memory.md R50, R56, R64, R120): what it does on RAM, that it never looks at
the memory field, and that what a program does on RAM is a sequence of accesses which replays. -/

namespace Sys2Proof.Machine

/-- The boundary with the memory field of its state replaced. -/
def Boundary.withMem (m : Memory) : Boundary → Boundary
  | .service vec t => .service vec { t with mem := m }
  | .proceed t => .proceed { t with mem := m }

/-- The interrupt check does not look at memory (R252-R254). -/
theorem interruptCheck_mem (s : State) (m : Memory) :
    interruptCheck { s with mem := m } = (interruptCheck s).withMem m := by
  simp only [interruptCheck, apply_ite (Boundary.withMem m)]; rfl

theorem busStep_faulted {s : State} {e : DecodeError} (h : s.fault = some e) :
    busStep s = .done (s, .fault (.decodeError e.opcode e.addr)) := by simp only [busStep, h]

theorem busStep_service {s t : State} {vec : Word} (h : s.fault = none) (hc : interruptCheck s = .service vec t) :
    busStep s = busEntry false t.pc vec t fun u => .done (u, .next interruptCycles) := by simp only [busStep, h, hc]

theorem busStep_proceed {s t : State} (h : s.fault = none) (hc : interruptCheck s = .proceed t) :
    busStep s = busInstruction t := by simp only [busStep, h, hc]

/-- Fetching, decoding and executing at the interface do not look at the memory field either. -/
theorem busInstruction_mem (s : State) (m : Memory) :
    busInstruction { s with mem := m } = (busInstruction s).map fun r => ({ r.1 with mem := m }, r.2) := by
  simp only [busInstruction, busFetch, Bus.map]
  congr 1
  funext b
  cases opcodeEntry b with
  | none => rfl
  | some e =>
    dsimp only
    rw [map_busResolve]
    refine (busResolve_mem e.mode (s.advance 1) m _).trans ?_
    simp only [busExecute_mem]

/-- The interface program of a step carries the memory field along and never looks at it. -/
theorem busStep_mem (s : State) (m : Memory) :
    busStep { s with mem := m } = (busStep s).map fun r => ({ r.1 with mem := m }, r.2) := by
  have hc := interruptCheck_mem s m
  obtain hf | ⟨e, hf⟩ := s.fault.eq_none_or_eq_some
  · cases hs : interruptCheck s with rw [hs] at hc
    | service vec t => rw [busStep_service hf hs]; exact busStep_service (s := { s with mem := m }) hf hc
    | proceed t => rw [busStep_proceed hf hs, ← busInstruction_mem]; exact busStep_proceed hf hc
  · rw [busStep_faulted hf]; exact busStep_faulted hf

/-- Where an instruction is fetched, the interface program reads the opcode, resolves the operand and executes it. -/
theorem serve_busInstruction_of_fetchInstr {s t : State} {i : Instr} (hi : fetchInstr s = some i) (hx : exec i s = .next t) :
    (busInstruction s).serve ram s.mem =
      (instrAccesses i s, t.mem, { t with mem := s.mem }, .next (instrCycles i s)) := by
  obtain ⟨hopc, ho⟩ := decodeOpcode_eq_some hi
  obtain ⟨e, he, hop, hm⟩ := opcodeEntry_opcode i
  have hv : ∀ v, i.operand = .immediate v → v = s.read (s.pc + 1) := by
    intro v hv
    rw [hv] at ho
    exact Operand.immediate.inj ho
  obtain ⟨hacc, hmem, hval⟩ := serve_busExecute i hx hv fun w =>
    (w, (.next (instrCycles i s) : Host.Outcome Nat Fault Refusal))
  have hcost : e.baseCycles + extraCycles e.penalty (resolve i.operand s).2 ((Action.of i.mnemonic).taken s.p) =
      instrCycles i s := by
    simp only [instrCycles, baseCycles, instrExtra, he, branchTaken]
  have hentry : opcodeEntry (s.mem.read s.pc) = some e := (congrArg opcodeEntry hopc).symm.trans he
  simp only [busInstruction, busFetch, Bus.serve_read, ram_answer, hentry]
  rw [serve_busResolve, hm, ← ho]
  simp only [State.past_p, hop, hcost]
  exact Prod.ext hacc (Prod.ext hmem hval)

/-- Where nothing is fetched, the interface program reads the opcode and latches the decode error (R104, R123). -/
theorem serve_busInstruction_of_unmapped {s : State} (h : fetchInstr s = none) :
    (busInstruction s).serve ram s.mem =
      ([readAt s s.pc], s.mem, latchDecodeError s, .fault (.decodeError (s.read s.pc) s.pc)) := by
  have hentry : opcodeEntry (s.mem.read s.pc) = none := fetchInstr_eq_none.mp h
  simp only [busInstruction, busFetch, Bus.serve_read, ram_answer, hentry]
  rfl

/-- Where the interrupt check lets an instruction run, the step on RAM is the instruction's program: it executes, or its opcode is
unmapped. -/
theorem serve_busStep_proceed {s t : State} (hf : s.fault = none) (hc : interruptCheck s = .proceed t) (ht : t.mem = s.mem) :
    (busStep s).serve ram s.mem =
      (stepAccesses s, (afterStep s).mem, { afterStep s with mem := s.mem }, stepReturn s) := by
  rw [busStep_proceed hf hc, ← ht]
  cases hi : fetchInstr t with
  | some i =>
    obtain ⟨u, hu, -⟩ := exec_frame i t
    have hstep := (step_execute hf hc hi).trans hu
    simp only [stepAccesses, afterStep, stepReturn, stepCost, hstep, hf, hc, hi]
    exact serve_busInstruction_of_fetchInstr hi hu
  | none =>
    simp only [stepAccesses, afterStep, faultedState, stepReturn, step_unmapped hf hc hi, hf, hc, hi]
    exact serve_busInstruction_of_unmapped hi

/-- What the interface program of a step does on RAM (R56, R64, R120): the cases are those of `step`. -/
theorem serve_busStep (s : State) : (busStep s).serve ram s.mem =
    (stepAccesses s, (afterStep s).mem, { afterStep s with mem := s.mem }, stepReturn s) := by
  obtain hf | ⟨e, hf⟩ := s.fault.eq_none_or_eq_some
  · obtain ⟨hmem, -, -⟩ := interruptCheck_keeps s
    cases hc : interruptCheck s with rw [hc] at hmem
    | service vec t =>
      rw [busStep_service hf hc, ← show t.mem = s.mem from hmem, serve_busEntry]
      simp only [stepAccesses, afterStep, stepReturn, stepCost, step_service hf hc, hf, hc, Bus.serve_done,
        List.append_nil]
      rfl
    | proceed t => exact serve_busStep_proceed hf hc hmem
  · have hstep := step_faulted hf
    have hacc : stepAccesses s = [] := by simp only [stepAccesses, hf]
    have hafter : afterStep s = s := by simp only [afterStep_of_fault hstep, faultedState, hf]
    have hret : stepReturn s = .fault (.decodeError e.opcode e.addr) := by simp only [stepReturn, hstep]
    rw [busStep_faulted hf, hacc, hafter, hret]
    rfl

/-- Settles O60: on RAM the program is `serve_busStep`, its independence from the memory
field `busStep_mem`; Reset's two reads are its definition. -/
theorem stepsAreTheInterfaceProgramOnRam : Obligations.StepsAreTheInterfaceProgramOnRam :=
  fun s => ⟨serve_busStep s, busStep_mem s, fun _ _ _ => rfl, rfl⟩

/-- What a program reads and writes on RAM, replayed on that RAM, goes through and leaves what the program left (R64). -/
theorem replay_serve_ram {α : Type} (t : Bus α) (m : Memory) :
    replay (t.serve ram m).1 m = some (t.serve ram m).2.1 := by
  induction t generalizing m with
  | done x => rfl
  | read a k ih => rw [Bus.serve_read, ram_answer, replay, if_pos rfl, ih]
  | write a v k ih => exact ih (m.write a v)

/-- Settles O57: a step on RAM is a program served by RAM, whose accesses replay. -/
theorem stepsAreTheirAccessSequence : Obligations.StepsAreTheirAccessSequence := by
  intro s
  simpa only [serve_busStep] using replay_serve_ram (busStep s) s.mem

end Sys2Proof.Machine
end

section
/-! The encoding of an instruction (30_encoding.md sections 1 and 3): the decoder on the operand bytes of each mode, and with it the
round trip, the lengths and the operand of a fetched Immediate instruction. -/

namespace Sys2Proof.Machine

/-- Decoding an opcode and the bytes of an operand of its row's mode assembles that operand: the mode's length takes just those bytes
(R83), and a 16-bit operand is put together from its two bytes (R82). -/
theorem decode_operandBytes {b : Byte} {e : Entry} (he : opcodeEntry b = some e) {o : Operand} (hm : e.mode = o.mode)
    (rest : List Byte) : decode (b :: (o.bytes ++ rest)) = .ofOption b (assemble e.op o) rest := by
  cases o with
  | memory r =>
    cases r <;> simp [decode, decodeOpcode, he, hm, Operand.mode, MemRef.mode, Mode.length, Operand.bytes, MemRef.bytes, operandOf]
  | _ => simp [decode, decodeOpcode, he, hm, Operand.mode, Mode.length, Operand.bytes, operandOf]

/-- Settles O1: the table's row of an instruction's opcode has its operation and mode, and what it decodes to is assembled from the
instruction's own operand. -/
theorem decodingAnEncodingGivesItBack : Obligations.DecodingAnEncodingGivesItBack := by
  intro i rest
  obtain ⟨e, he, hop, hm⟩ := opcodeEntry_opcode i
  calc decode (encode i ++ rest)
      = .ofOption i.opcode (assemble e.op i.operand) rest := decode_operandBytes he hm rest
    _ = .instr i rest := by rw [hop, assemble_operand]; rfl

theorem encode_length (i : Instr) : (encode i).length = i.operand.mode.length := by
  obtain ⟨-, hlen, -⟩ := encoding_holds i
  exact hlen

/-- Settles O6: an encoding is as long as its mode says, and the three lists of R83 are the modes of each length. -/
theorem lengthIsFixedByTheMode : Obligations.LengthIsFixedByTheMode := by
  intro i
  have one : ∀ m ∈ [Mode.accumulator, .implied], m.length = 1 := by decide
  have two : ∀ m ∈ [Mode.immediate, .zeroPage, .zeroPageX, .zeroPageY, .indirectX, .indirectY, .relative], m.length = 2 := by
    decide
  have three : ∀ m ∈ [Mode.absolute, .absoluteX, .absoluteY, .indirect], m.length = 3 := by decide
  rw [encode_length]
  exact ⟨one _, two _, three _⟩

/-- Settles O14: a fetched operand is what its mode makes of the bytes after the opcode, in Immediate mode the first of them. -/
theorem immediateOperandsAreInTheInstructionStream : Obligations.ImmediateOperandsAreInTheInstructionStream := by
  intro s i v hi hv
  obtain ⟨-, ho⟩ := decodeOpcode_eq_some hi
  rw [hv] at ho ⊢
  exact ⟨rfl, Operand.immediate.inj ho⟩

end Sys2Proof.Machine
end

section
/-! The addressing modes (30_encoding.md section 2): zero-page addresses and branch targets on numbers, and which modes have an
address and can cross a page. -/

namespace Sys2Proof.Machine

/-- The target of a branch as an integer: the displacement is signed (R99), the sum wraps mod 65536 (D11). -/
theorem branchTarget_toNat (d : Byte) (s : State) : ((branchTarget d s).toNat : Int) =
    ((s.pc.toNat : Int) + 2 + (if d.toNat < 128 then (d.toNat : Int) else (d.toNat : Int) - 256)) % 65536 := by
  have hsum : (branchTarget d s).toNat = (s.pc.toNat + 2 + (sext16 d).toNat) % 65536 := by
    simp [branchTarget, BitVec.toNat_add]
  rw [hsum, sext16_toNat]
  split <;> omega

/-- Settles O13: the target is `branchTarget`, whose integer value is `branchTarget_toNat`. -/
theorem relativeTargetsAreSigned : Obligations.RelativeTargetsAreSigned :=
  fun d s => ⟨branchTarget d s, by rw [decide_not]; rfl, branchTarget_toNat d s⟩

/-- Among the memory operands only those indexed after a 16-bit base can cross (R92, R93, R96). -/
theorem mode_mem_of_crossed {r : MemRef} {s : State} (h : r.crossed s = true) :
    r.mode ∈ [Mode.absoluteX, .absoluteY, .indirectY] := by
  cases r with
  | absoluteX w | absoluteY w | indirectY b => simp [MemRef.mode]
  | _ => cases h

theorem memRef_mode_not_mem (r : MemRef) : r.mode ∉ [Mode.implied, .accumulator] := by
  cases r <;> simp [MemRef.mode]

/-- Settles O15: a memory operand has an address and crosses as `mode_mem_of_crossed` says; the other four operands are the cases of
the resolver. -/
theorem onlyIndexedModesCross : Obligations.OnlyIndexedModesCross := by
  intro o s
  cases o with
  | memory r =>
    refine ⟨fun h => ?_, iff_of_false (Option.some_ne_none _) (memRef_mode_not_mem r)⟩
    exact List.mem_append_left [Mode.relative] (mode_mem_of_crossed h)
  | _ => simp [resolve, Operand.mode]

/-- Settles O9: the sum of the operand and the index is taken in 8 bits and only then widened. -/
theorem zeroPageAddressesStayInPageZero : Obligations.ZeroPageAddressesStayInPageZero := by
  intro b s
  have indexed (i : Byte) : (zext16 (b + i)).toNat = (b.toNat + i.toNat) % 256 := by
    rw [zext16_toNat, BitVec.toNat_add]
  exact ⟨zext16_toNat b, indexed s.x, indexed s.y, rfl, rfl, rfl⟩

end Sys2Proof.Machine
end

section
/-! One step of the engine (40_execution_engine.md section 1): which instruction a step executes (R120-R122), and that a faulted core
does nothing until Reset (R126, R283). -/

namespace Sys2Proof.Machine

/-- The operand bytes that a mode makes of two bytes are the first of them (R81, R82). -/
theorem exists_operandOf_bytes_append (m : Mode) (b1 b2 : Byte) : ∃ rest, (operandOf m b1 b2).bytes ++ rest = [b1, b2] := by
  cases m with
  | implied | accumulator => exact ⟨[b1, b2], rfl⟩
  | absolute | absoluteX | absoluteY | indirect => exact ⟨[], by simp [operandOf, Operand.bytes, MemRef.bytes]⟩
  | _ => exact ⟨[b2], rfl⟩

theorem ofOption_eq_instr {b : Byte} {o : Option Instr} {i : Instr} {rest rest' : List Byte}
    (h : Decoded.ofOption b o rest = .instr i rest') : o = some i := by
  cases o with
  | some j => cases h; rfl
  | none => cases h

/-- What three bytes decode to is what the engine fetches from them: no instruction is longer (R83). -/
theorem decodeOpcode_of_decode {b0 b1 b2 : Byte} {i : Instr} {rest : List Byte} (h : decode [b0, b1, b2] = .instr i rest) :
    decodeOpcode b0 b1 b2 = some i := by
  cases he : opcodeEntry b0 with
  | none => simp only [decode, he] at h; cases h
  | some e =>
    obtain ⟨rest', hb⟩ := exists_operandOf_bytes_append e.mode b1 b2
    rw [← hb, decode_operandBytes he (operandOf_mode _ _ _).symm] at h
    simpa only [decodeOpcode, he] using ofOption_eq_instr h

/-- Settles O16: the interrupt check lets the instruction run, and the bytes it is fetched from are those decoded; dropping a masked
request moves neither PC nor memory. -/
theorem aStepExecutesTheFetchedInstruction : Obligations.AStepExecutesTheFetchedInstruction :=
  fun _ _ _ hf hn hi hd => step_execute hf (interruptCheck_proceed hn hi) (decodeOpcode_of_decode hd)

theorem afterStep_faulted {s : State} {e : DecodeError} (h : s.fault = some e) : afterStep s = s := by
  simp only [afterStep_of_fault (step_faulted h), faultedState, h]

theorem stepAccesses_faulted {s : State} {e : DecodeError} (h : s.fault = some e) : stepAccesses s = [] := by
  simp only [stepAccesses, h]

/-- Reset clears the latch (R280, R283). -/
@[simp] theorem hostReset_fault (s : State) : (hostReset s).fault = none := rfl

/-- Settles O18: a faulted state is a fixed point of the step, so that every later step is the first one again. -/
theorem faultedCoresDoNothingUntilReset : Obligations.FaultedCoresDoNothingUntilReset := by
  intro s e n h
  have hn : afterStep^[n] s = s := Function.iterate_fixed (afterStep_faulted h) n
  rw [hn]
  exact ⟨rfl, step_faulted h, stepAccesses_faulted h, hostReset_fault s⟩

end Sys2Proof.Machine
end

section
/-! The run loop (40_execution_engine.md section 2, R128 and R129): what a completed step costs, that the fuel of the loop never runs
out and its total accumulates, and with these the loop unfolded step by step. -/

namespace Sys2Proof.Machine

/-- Every instruction costs from 1 to 7 cycles, its extra cycles included (R101, R127). -/
theorem instrCycles_bounds (i : Instr) (s : State) : 1 ≤ instrCycles i s ∧ instrCycles i s ≤ 7 := by
  have rows : ∀ r ∈ opcodeRows, 1 ≤ r.2.baseCycles ∧
      ∀ crossed taken, r.2.baseCycles + extraCycles r.2.penalty crossed taken ≤ 7 := by decide +kernel
  obtain ⟨e, he, -⟩ := opcodeEntry_opcode i
  obtain ⟨hbase, hcost⟩ := rows _ (opcodeEntry_mem he)
  simp only [instrCycles, baseCycles, instrExtra, he]
  exact ⟨Nat.le_add_right_of_le hbase, hcost _ _⟩

theorem stepCost_service {s t : State} {vec : Word} (h : s.fault = none) (hc : interruptCheck s = .service vec t) :
    stepCost s = interruptCycles := by simp only [stepCost, h, hc]

theorem stepCost_execute {s t : State} {i : Instr} (h : s.fault = none) (hc : interruptCheck s = .proceed t)
    (hi : fetchInstr t = some i) : stepCost s = instrCycles i t := by simp only [stepCost, h, hc, hi]

/-- A step that goes on costs from 1 to 7 cycles, whether it serviced an interrupt (R257) or executed an instruction (R127). -/
theorem stepCost_bounds {s t : State} (h : step s = .next t) : 1 ≤ stepCost s ∧ stepCost s ≤ 7 := by
  obtain ⟨hf, ⟨vec, u, hc, -⟩ | ⟨u, i, hc, hi, -⟩⟩ := step_next_cases h
  · rw [stepCost_service hf hc]; decide
  · rw [stepCost_execute hf hc hi]; exact instrCycles_bounds i u

theorem stepReturn_next_bounds {s : State} {c : Nat} (h : stepReturn s = .next c) : 1 ≤ c ∧ c ≤ 7 := by
  unfold stepReturn at h
  split at h <;> cases h
  next hs => exact stepCost_bounds hs

/-- The result of a run that completed `n` cycles before it. -/
def RunResult.addCycles (n : Nat) (r : RunResult) : RunResult := { r with total := n + r.total }

theorem runLoop_spent (fuel : Nat) {budget : Int} (total : Nat) (s : State) (h : budget ≤ 0) :
    runLoop fuel budget total s = { state := s, total := total, outcome := .next () } := by
  cases fuel with
  | zero => rfl
  | succ fuel => exact if_neg (Int.not_lt.mpr h)

/-- One turn of the loop, by what its step returns (R128, R129). -/
theorem runLoop_step (fuel : Nat) {budget : Int} (total : Nat) (s : State) (h : 0 < budget) :
    runLoop (fuel + 1) budget total s =
      match stepReturn s with
      | .next c => runLoop fuel (budget - c) (total + c) (afterStep s)
      | .fault f => { state := afterStep s, total := total, outcome := .fault f }
      | .refused r => { state := afterStep s, total := total, outcome := .refused r } := if_pos h

/-- The loop adds to the total it is given and does not look at it. -/
theorem runLoop_add (fuel : Nat) (budget : Int) (n total : Nat) (s : State) :
    runLoop fuel budget (n + total) s = (runLoop fuel budget total s).addCycles n := by
  induction fuel generalizing budget total s with
  | zero => rfl
  | succ fuel ih =>
    obtain h | h := le_or_gt budget 0
    · simp only [runLoop_spent _ _ _ h, RunResult.addCycles]
    · rw [runLoop_step _ _ _ h, runLoop_step _ _ _ h]
      cases stepReturn s with
      | next c => simpa only [Nat.add_assoc] using ih (budget - c) (total + c) (afterStep s)
      | _ => rfl

/-- As much fuel as the budget is enough: every completed step costs at least one cycle. -/
theorem runLoop_fuel_irrelevant {fuel fuel' : Nat} {budget : Int} (h : budget ≤ fuel) (h' : budget ≤ fuel') (total : Nat)
    (s : State) : runLoop fuel budget total s = runLoop fuel' budget total s := by
  obtain hb | hb := le_or_gt budget 0
  · rw [runLoop_spent _ _ _ hb, runLoop_spent _ _ _ hb]
  · obtain ⟨fuel, rfl⟩ : ∃ k, fuel = k + 1 := ⟨fuel - 1, by omega⟩
    obtain ⟨fuel', rfl⟩ : ∃ k, fuel' = k + 1 := ⟨fuel' - 1, by omega⟩
    rw [runLoop_step _ _ _ hb, runLoop_step _ _ _ hb]
    cases hr : stepReturn s with
    | next c =>
      obtain ⟨hc, -⟩ := stepReturn_next_bounds hr
      exact runLoop_fuel_irrelevant (by omega) (by omega) _ _
    | _ => rfl
termination_by fuel

theorem run_spent {budget : Int} (s : State) (h : budget ≤ 0) :
    run budget s = { state := s, total := 0, outcome := .next () } := runLoop_spent _ _ _ h

/-- One turn of a run with budget left, by what its step returns (R128, R129). -/
theorem run_step {budget : Int} (s : State) (h : 0 < budget) :
    run budget s =
      match stepReturn s with
      | .next c => (run (budget - c) (afterStep s)).addCycles c
      | .fault f => { state := afterStep s, total := 0, outcome := .fault f }
      | .refused r => { state := afterStep s, total := 0, outcome := .refused r } := by
  obtain ⟨fuel, hfuel⟩ : ∃ k, budget.toNat = k + 1 := ⟨budget.toNat - 1, by omega⟩
  rw [run, hfuel, runLoop_step _ _ _ h]
  cases hr : stepReturn s with
  | next c =>
    obtain ⟨hc, -⟩ := stepReturn_next_bounds hr
    calc runLoop fuel (budget - c) (0 + c) (afterStep s)
        = (runLoop fuel (budget - c) 0 (afterStep s)).addCycles c := by rw [Nat.add_comm, runLoop_add]
      _ = (run (budget - c) (afterStep s)).addCycles c := by
        rw [run, runLoop_fuel_irrelevant (by omega) (Int.self_le_toNat _)]
  | _ => rfl

/-- A run that ends without a fault stops at the first total that reaches its budget: one less than the cost of the last step is
the most that it overspends. -/
theorem run_total_bounds {budget : Int} {s : State} (hb : 0 < budget) (hok : (run budget s).outcome = .next ()) :
    budget ≤ (run budget s).total ∧ (run budget s).total ≤ budget + 6 := by
  rw [run_step s hb] at hok ⊢
  cases hr : stepReturn s with rw [hr] at hok
  | next c =>
    obtain ⟨hpos, hmax⟩ := stepReturn_next_bounds hr
    simp only [RunResult.addCycles, Nat.cast_add]
    obtain hspent | hleft := le_or_gt (budget - c) 0
    · simp only [run_spent _ hspent, Nat.cast_zero]; omega
    · obtain ⟨hlow, hhigh⟩ := run_total_bounds hleft hok
      omega
  | fault f => cases hok
  | refused r => cases hok
termination_by budget.toNat
decreasing_by omega

/-- Settles O58: the first three clauses are a spent run and one turn of it, the last is `run_total_bounds`. -/
theorem runUnfoldsStepByStep : Obligations.RunUnfoldsStepByStep := by
  intro budget s
  refine ⟨run_spent s, fun hb c hc => ?_, fun hb f hf => ?_, run_total_bounds⟩
  · simp only [run_step s hb, hc, RunResult.addCycles]
  · rw [run_step s hb, hf]

end Sys2Proof.Machine
end

section
/-! The register transfers (41_load_store_transfer.md, R146-R151): instructions whose operation runs on registers and flags only. -/

namespace Sys2Proof.Machine

/-- An instruction whose action is inner runs its operation on the state with PC past its one byte (R81). -/
theorem exec_of_inner {i : Instr} {op : State → State} (h : Action.of i.mnemonic = .inner op) (s : State) :
    exec i s = .next (op { s with pc := s.pc + 1 }) := by
  cases i <;> cases h <;> rfl

/-- Settles O24: each transfer is inner, and its operation updates the destination register, with Z and N by `Flags.setZN` for all
but TXS. -/
theorem transfersCopyTheRegister : Obligations.TransfersCopyTheRegister := by
  intro s
  exact ⟨exec_of_inner (op := taxOp) rfl s, exec_of_inner (op := tayOp) rfl s, exec_of_inner (op := txaOp) rfl s,
    exec_of_inner (op := tyaOp) rfl s, exec_of_inner (op := tsxOp) rfl s, exec_of_inner (op := txsOp) rfl s⟩

end Sys2Proof.Machine
end

section
/-! What an instruction pays for a page crossing (40_execution_engine.md R127), by the penalty class of its row (R101; D15). -/

namespace Sys2Proof.Machine

/-- The operations whose rows pay for a crossing, in the modes that can cross (D15). -/
def penalisedReads : List Mnemonic := [.ADC, .AND, .CMP, .EOR, .LDA, .ORA, .SBC, .LDX, .LDY]

/-- The rows of the penalised reads: fixed cost stands only where no crossing is possible. -/
theorem penalty_of_penalisedRead {b : Byte} {e : Entry} (h : opcodeEntry b = some e) (hop : e.op ∈ penalisedReads) :
    e.penalty = .yes ∨ e.penalty = .no ∧ e.mode ∉ [Mode.absoluteX, .absoluteY, .indirectY, .relative] := by
  have rows : ∀ r ∈ opcodeRows, r.2.op ∈ penalisedReads →
      r.2.penalty = .yes ∨ r.2.penalty = .no ∧ r.2.mode ∉ [Mode.absoluteX, .absoluteY, .indirectY, .relative] := by
    decide +kernel
  exact rows (b, e) (opcodeEntry_mem h) hop

/-- The rows that are neither penalised reads nor branches. -/
theorem penalty_of_fixedCost {b : Byte} {e : Entry} (h : opcodeEntry b = some e) (hop : e.op ∉ penalisedReads)
    (hm : e.mode ≠ .relative) : e.penalty = .no := by
  have rows : ∀ r ∈ opcodeRows, r.2.op ∉ penalisedReads → r.2.mode ≠ .relative → r.2.penalty = .no := by
    decide +kernel
  exact rows (b, e) (opcodeEntry_mem h) hop hm

/-- A penalised read pays one cycle exactly for a crossing: where its row has fixed cost, its mode cannot cross. -/
theorem instrExtra_of_penalisedRead {i : Instr} (h : i.mnemonic ∈ penalisedReads) (s : State) :
    instrExtra i s = if (resolve i.operand s).2 then 1 else 0 := by
  obtain ⟨e, he, hop, hm⟩ := opcodeEntry_opcode i
  obtain hp | ⟨hp, hmode⟩ := penalty_of_penalisedRead he (hop ▸ h)
  · simp only [instrExtra, he, hp, extraCycles]
  · obtain ⟨hcross, -⟩ := onlyIndexedModesCross i.operand s
    have hno : ¬(resolve i.operand s).2 = true := fun hc => hmode (hm ▸ hcross hc)
    simp only [instrExtra, he, hp, extraCycles, if_neg hno]

theorem instrExtra_of_fixedCost {i : Instr} (hop : i.mnemonic ∉ penalisedReads) (hm : i.operand.mode ≠ .relative)
    (s : State) : instrExtra i s = 0 := by
  obtain ⟨e, he, hop', hm'⟩ := opcodeEntry_opcode i
  simp only [instrExtra, he, penalty_of_fixedCost he (hop' ▸ hop) (hm' ▸ hm), extraCycles]

end Sys2Proof.Machine
end

section
/-! Arithmetic, logic and bit test on A, and the steps of an index register (42_arithmetic_logic.md sections 1 to 3, 5 and 6):
operations on the operand byte, or on registers alone. -/

namespace Sys2Proof.Machine

/-- An instruction whose action is a read has an operand byte, and runs its operation on it with PC past the instruction
(R87, R100). -/
theorem exec_of_read {i : Instr} {op : Byte → State → State} (h : Action.of i.mnemonic = .read op) (s : State) :
    ∃ v, operandByte i.operand s = some v ∧ exec i s = .next (op v (s.past i.operand.mode)) := by
  obtain ⟨t, ht, -⟩ := exec_frame i s
  have heff := exec_effect ht
  rw [h] at heff
  cases heff with
  | read hv => exact ⟨_, hv, ht⟩

/-- Settles O25: ADC runs `adcOp` on its operand byte, and AddWithCarry says what that does to A, C, V, Z and N. -/
theorem adcAddsWithCarryInBinary : Obligations.AdcAddsWithCarryInBinary := by
  intro i s hi
  obtain ⟨v, hv, hx⟩ := exec_of_read (op := adcOp) (by rw [hi]; rfl) s
  exact ⟨v, _, hv, hx, rfl, addWithCarry_toNat s.a v s.p, addWithCarry_c s.a v s.p, addWithCarry_v s.a v s.p,
    addWithCarry_z s.a v s.p, addWithCarry_n s.a v s.p, instrExtra_of_penalisedRead (by rw [hi]; decide) s⟩

/-- Adding the complement and the carry subtracts the byte and the borrow (R164). -/
theorem addWithCarry_not_toNat (a m : Byte) (f : Flags) :
    ((addWithCarry a (~~~m) f).1.toNat : Int) = ((a.toNat : Int) - m.toNat - (1 - f.c.toNat)) % 256 := by
  have hm := m.isLt
  rw [addWithCarry_toNat, BitVec.toNat_not]
  omega

/-- The carry out of that addition is the absence of a borrow (R164). -/
theorem addWithCarry_not_c (a m : Byte) (f : Flags) :
    (addWithCarry a (~~~m) f).2.c = true ↔ 0 ≤ (a.toNat : Int) - m.toNat - (1 - f.c.toNat) := by
  have hm := m.isLt
  rw [addWithCarry_c, BitVec.toNat_not]
  omega

/-- V is bit 7 of both operands' differences from the result (R161; D23). -/
theorem addWithCarry_v_eq (a b : Byte) (f : Flags) : (addWithCarry a b f).2.v =
    ((a ^^^ (addWithCarry a b f).1) &&& (b ^^^ (addWithCarry a b f).1)).getLsbD 7 := rfl

/-- The overflow of that addition, on bit 7 of the byte itself: where A and the result differ there, the complement differs
from the result just where the byte differs from A (R164; D23). -/
theorem addWithCarry_not_v (a m : Byte) (f : Flags) :
    (addWithCarry a (~~~m) f).2.v = ((a ^^^ m) &&& (a ^^^ (addWithCarry a (~~~m) f).1)).getLsbD 7 := by
  have bits : ∀ A M R : Bool, ((A ^^ R) && (!M ^^ R)) = ((A ^^ M) && (A ^^ R)) := by decide
  have hnot : (~~~m).getLsbD 7 = !m.getLsbD 7 := by simp
  rw [addWithCarry_v_eq]
  simp only [BitVec.getLsbD_and, BitVec.getLsbD_xor, hnot, bits]

/-- Settles O26: SBC runs `sbcOp` on its operand byte, which is AddWithCarry with the complement of that byte. -/
theorem sbcSubtractsWithBorrowInBinary : Obligations.SbcSubtractsWithBorrowInBinary := by
  intro i s hi
  obtain ⟨v, hv, hx⟩ := exec_of_read (op := sbcOp) (by rw [hi]; rfl) s
  exact ⟨v, _, hv, hx, rfl, addWithCarry_not_toNat s.a v s.p, addWithCarry_not_c s.a v s.p, addWithCarry_not_v s.a v s.p,
    addWithCarry_z s.a (~~~v) s.p, addWithCarry_n s.a (~~~v) s.p, instrExtra_of_penalisedRead (by rw [hi]; decide) s⟩

/-- Settles O27: each operation is a read whose result goes to A, with Z and N by `Flags.setZN`. -/
theorem logicalOperationsOnA : Obligations.LogicalOperationsOnA := by
  intro i s r h
  obtain ⟨op, hact, hop, hpen⟩ : ∃ op : Byte → State → State, Action.of i.mnemonic = .read op ∧
      (∀ v, op v (s.past i.operand.mode) = { s.past i.operand.mode with a := r v, p := s.p.setZN (r v) }) ∧
      i.mnemonic ∈ penalisedReads := by
    obtain ⟨h, rfl⟩ | ⟨h, rfl⟩ | ⟨h, rfl⟩ := h <;> rw [h] <;> exact ⟨_, rfl, fun _ => rfl, by decide⟩
  obtain ⟨v, hv, hx⟩ := exec_of_read hact s
  rw [hop] at hx
  exact ⟨v, hv, hx, instrExtra_of_penalisedRead hpen s⟩

/-- Settles O29: BIT runs `bitOp` on its operand byte, which writes the three flags alone. -/
theorem bitTestsTheMemoryOperand : Obligations.BitTestsTheMemoryOperand := by
  intro i s hi
  exact exec_of_read (op := bitOp) (by rw [hi]; rfl) s

theorem byte_add_one_eq_zero (v : Byte) : v + 1 = 0 ↔ v = 255 := by bv_omega

theorem byte_sub_one_eq_zero (v : Byte) : v - 1 = 0 ↔ v = 1 := by bv_omega

/-- Settles O31: each of the four is inner, and a step ends in 0 from 255 going up and from 1 going down. -/
theorem indexIncrementsAndDecrements : Obligations.IndexIncrementsAndDecrements := by
  intro s
  simp only [← byte_add_one_eq_zero, ← byte_sub_one_eq_zero]
  exact ⟨exec_of_inner (op := inxOp) rfl s, exec_of_inner (op := inyOp) rfl s, exec_of_inner (op := dexOp) rfl s,
    exec_of_inner (op := deyOp) rfl s⟩

end Sys2Proof.Machine
end

section
/-! INC and DEC (42_arithmetic_logic.md section 6, R172 and R173): a read-modify-write on memory (R56). -/

namespace Sys2Proof.Machine

/-- A read-modify-write on memory changes PC, the flags and the byte at the effective address (R56, R190). -/
theorem exec_of_modify {i : Instr} {f : Byte → Flags → Byte × Flags} {r : MemRef}
    (h : Action.of i.mnemonic = .modify f) (hr : i.operand = .memory r) (s : State) :
    exec i s = .next { s with
      pc := s.pc + BitVec.ofNat 16 i.length
      mem := s.mem.write (r.ea s) (f (s.read (r.ea s)) s.p).1
      p := (f (s.read (r.ea s)) s.p).2 } := by
  obtain ⟨t, ht, -⟩ := exec_frame i s
  have heff := exec_effect ht
  rw [h, hr] at heff
  rw [ht, Instr.length, hr]
  cases heff with
  | modifyAccumulator ho => cases ho
  | modifyMemory ho => cases ho; rfl

/-- INC and DEC have a memory operand, in modes without a pointer (R172, R173). -/
theorem operand_of_incDec {i : Instr} (h : i.mnemonic = .INC ∨ i.mnemonic = .DEC) :
    ∃ r, i.operand = .memory r ∧ r.mode ≠ .relative ∧ ∀ s, pointerAccesses r s = [] := by
  obtain h | h := h <;> cases i <;> cases h <;> exact ⟨_, rfl, nofun, fun _ => rfl⟩

theorem Flags.setZN_z_iff (f : Flags) (v : Byte) : (f.setZN v).z = true ↔ v.toNat = 0 := by
  rw [Flags.setZN_z, decide_eq_true_eq, BitVec.toNat_eq]; rfl

theorem Flags.setZN_n_iff (f : Flags) (v : Byte) : (f.setZN v).n = true ↔ 128 ≤ v.toNat := bit7_iff v

/-- Settles O30: both are read-modify-writes whose function adds `k` and sets Z and N from the result. -/
theorem incAndDecModifyMemory : Obligations.IncAndDecModifyMemory := by
  intro i s k h
  obtain ⟨f, hact, hk, hzn, hop⟩ : ∃ f : Byte → Flags → Byte × Flags, Action.of i.mnemonic = .modify f ∧
      (∀ v p, (f v p).1.toNat = (v.toNat + k) % 256) ∧ (∀ v p, (f v p).2 = p.setZN (f v p).1) ∧
      (i.mnemonic = .INC ∨ i.mnemonic = .DEC) := by
    obtain ⟨h, rfl⟩ | ⟨h, rfl⟩ := h <;> rw [h]
    · exact ⟨increment, rfl, increment_toNat, fun _ _ => rfl, .inl rfl⟩
    · exact ⟨decrement, rfl, decrement_toNat, fun _ _ => rfl, .inr rfl⟩
  obtain ⟨r, hr, hm, hptr⟩ := operand_of_incDec hop
  have hpen : i.mnemonic ∉ penalisedReads := by obtain hop | hop := hop <;> rw [hop] <;> decide
  have hx := exec_of_modify hact hr s
  rw [hzn] at hx
  refine ⟨r.ea s, _, by rw [hr]; rfl, hx, rfl, ?_⟩
  simp only [State.read_def, Memory.read_write_same]
  exact ⟨hk _ _, fun b hb => Memory.read_write_other _ _ hb, Flags.setZN_z_iff _ _, Flags.setZN_n_iff _ _,
    by simp only [instrAccesses, hr, hact, hptr, memoryAccesses, List.nil_append]; rfl,
    instrExtra_of_fixedCost hpen (hr ▸ hm) s⟩

end Sys2Proof.Machine
end

section
/-! The Decimal flag is inert (00_scope.md R8, 42_arithmetic_logic.md R179): it passes through an instruction, or is overwritten. -/

namespace Sys2Proof.Machine

/-- The state with another Decimal flag. -/
def State.withDecimal (s : State) (b : Bool) : State := { s with p := { s.p with d := b } }

/-- The operations that write D do not look at it (R205, R206, R236, R238). -/
theorem exec_of_decimalWriter {i : Instr} (h : i.mnemonic ∈ [Mnemonic.CLD, .SED, .PLP, .RTI]) (s : State) (b : Bool) :
    exec i (s.withDecimal b) = exec i s := by
  simp only [List.mem_cons, List.not_mem_nil, or_false] at h
  obtain h | h | h | h := h <;> cases i <;> cases h <;> rfl

/-- Every other operation but the two that push D passes it through, and computes the same whatever it is. -/
theorem exec_withDecimal {i : Instr} (h : i.mnemonic ∉ [Mnemonic.PHP, .BRK, .CLD, .SED, .PLP, .RTI]) (s : State)
    (b : Bool) : ∃ t, exec i s = .next t ∧ t.p.d = s.p.d ∧ exec i (s.withDecimal b) = .next (t.withDecimal b) := by
  cases i
  case php | brk | cld | sed | plp | rti => exact absurd (by decide) h
  all_goals exact ⟨_, rfl, rfl, rfl⟩

/-- Settles O48: D is overwritten alike from both states, or passes through. -/
theorem decimalModeIsInert : Obligations.DecimalModeIsInert := by
  intro i s b h
  by_cases hw : i.mnemonic ∈ [Mnemonic.CLD, .SED, .PLP, .RTI]
  · obtain ⟨t, ht, -⟩ := exec_frame i s
    have harith : ∀ op ∈ [Mnemonic.CLD, .SED, .PLP, .RTI], op ∉ [Mnemonic.ADC, .SBC] := by decide
    exact ⟨t, t.p.d, ht, (exec_of_decimalWriter hw s b).trans ht, fun ha => absurd ha (harith _ hw)⟩
  · obtain ⟨t, ht, hd, hb⟩ := exec_withDecimal (List.mem_append.not.mpr (not_or.mpr ⟨h, hw⟩)) s b
    exact ⟨t, b, ht, hb, fun _ => ⟨hd, rfl⟩⟩

end Sys2Proof.Machine
end

section
/-! The shifts and rotates (43_shift_rotate.md, R190-R194): a read-modify-write on A (R97) or on a byte of memory (R56). -/

namespace Sys2Proof.Machine

/-- A read-modify-write in Accumulator mode changes PC, A and the flags (R97, R190). -/
theorem exec_of_modify_accumulator {i : Instr} {f : Byte → Flags → Byte × Flags} (h : Action.of i.mnemonic = .modify f)
    (ho : i.operand = .accumulator) (s : State) :
    exec i s = .next { s with pc := s.pc + BitVec.ofNat 16 i.length, a := (f s.a s.p).1, p := (f s.a s.p).2 } := by
  obtain ⟨t, ht, -⟩ := exec_frame i s
  have heff := exec_effect ht
  rw [h, ho] at heff
  rw [ht, Instr.length, ho]
  cases heff with
  | modifyAccumulator => rfl
  | modifyMemory ho => cases ho

/-- A read-modify-write on memory reads its address once and then writes it once (R56; D12). -/
theorem instrAccesses_of_modify {i : Instr} {f : Byte → Flags → Byte × Flags} {r : MemRef}
    (h : Action.of i.mnemonic = .modify f) (hr : i.operand = .memory r) {s : State} (hptr : pointerAccesses r s = []) :
    instrAccesses i s = fetchAccesses i.operand.mode s ++
      [.read (r.ea s) (s.read (r.ea s)), .write (r.ea s) (f (s.read (r.ea s)) s.p).1] := by
  simp only [instrAccesses, hr, h, hptr, List.nil_append]
  rfl

/-- The operations of 43_shift_rotate.md. -/
def shiftsAndRotates : List Mnemonic := [.ASL, .LSR, .ROL, .ROR]

/-- The target of a shift or rotate is A, or a byte of memory in a mode without a pointer (R190). -/
theorem operand_of_shiftOrRotate {i : Instr} (h : i.mnemonic ∈ shiftsAndRotates) :
    i.operand = .accumulator ∨ ∃ r, i.operand = .memory r ∧ r.mode ≠ .relative ∧ ∀ s, pointerAccesses r s = [] := by
  simp only [shiftsAndRotates, List.mem_cons, List.not_mem_nil, or_false] at h
  cases i
  case aslAccumulator | lsrAccumulator | rolAccumulator | rorAccumulator => exact .inl rfl
  all_goals obtain h | h | h | h := h <;> cases h <;> exact .inr ⟨_, rfl, nofun, fun _ => rfl⟩

theorem not_penalisedRead_of_shiftOrRotate : ∀ op ∈ shiftsAndRotates, op ∉ penalisedReads := by decide

/-- Settles O32: each operation is a read-modify-write whose function answers the shifted byte and writes C, with Z and N by
`Flags.setZN` of the result; the two shapes of target are those of `operand_of_shiftOrRotate`. -/
theorem shiftsAndRotatesOfTheTarget : Obligations.ShiftsAndRotatesOfTheTarget := by
  intro i s f co h
  obtain ⟨g, hact, hf, hco, hzn, hop⟩ : ∃ g : Byte → Flags → Byte × Flags, Action.of i.mnemonic = .modify g ∧
      (∀ v, (g v s.p).1.toNat = f v.toNat) ∧ (∀ v, (g v s.p).2.c = true ↔ co v.toNat) ∧
      (∀ v, (g v s.p).2 = Flags.setZN { s.p with c := (g v s.p).2.c } (g v s.p).1) ∧ i.mnemonic ∈ shiftsAndRotates := by
    obtain ⟨h, rfl, rfl⟩ | ⟨h, rfl, rfl⟩ | ⟨h, rfl, rfl⟩ | ⟨h, rfl, rfl⟩ := h <;> rw [h]
    · exact ⟨shiftLeft, rfl, (shiftLeft_toNat · s.p), (shiftLeft_c · s.p), fun _ => rfl, by decide⟩
    · exact ⟨shiftRight, rfl, (shiftRight_toNat · s.p), (shiftRight_c · s.p), fun _ => rfl, by decide⟩
    · exact ⟨rotateLeft, rfl, (rotateLeft_toNat · s.p), (rotateLeft_c · s.p), fun _ => rfl, by decide⟩
    · exact ⟨rotateRight, rfl, (rotateRight_toNat · s.p), (rotateRight_c · s.p), fun _ => rfl, by decide⟩
  have hpen := not_penalisedRead_of_shiftOrRotate _ hop
  obtain ho | ⟨r, hr, hm, hptr⟩ := operand_of_shiftOrRotate hop
  · have hx := exec_of_modify_accumulator hact ho s
    rw [hzn] at hx
    exact ⟨s.a, _, _, by rw [ho]; rfl, hx, hf _, hco _, Flags.setZN_z_iff _ _, Flags.setZN_n_iff _ _,
      instrExtra_of_fixedCost hpen (by rw [ho]; nofun) s, .inl ⟨ho, rfl⟩⟩
  · have hx := exec_of_modify hact hr s
    rw [hzn] at hx
    exact ⟨s.read (r.ea s), _, _, by rw [hr]; rfl, hx, hf _, hco _, Flags.setZN_z_iff _ _, Flags.setZN_n_iff _ _,
      instrExtra_of_fixedCost hpen (hr ▸ hm) s, .inr ⟨r.ea s, by rw [hr]; rfl, rfl, Memory.read_write_same _ _ _,
        fun _ hb => Memory.read_write_other _ _ hb, instrAccesses_of_modify hact hr (hptr s)⟩⟩

end Sys2Proof.Machine
end

section
/-! The flag instructions and NOP (44_flags_nop.md, R200-R207): like the transfers, inner instructions. -/

namespace Sys2Proof.Machine

/-- Settles O33: each of the seven is inner, and its operation writes the flag it names. -/
theorem flagInstructionsWriteOneFlag : Obligations.FlagInstructionsWriteOneFlag := by
  intro s
  exact ⟨exec_of_inner (op := clcOp) rfl s, exec_of_inner (op := secOp) rfl s, exec_of_inner (op := cliOp) rfl s,
    exec_of_inner (op := seiOp) rfl s, exec_of_inner (op := clvOp) rfl s, exec_of_inner (op := cldOp) rfl s,
    exec_of_inner (op := sedOp) rfl s⟩

/-- Settles O34: NOP is inner, and its operation is the identity (D16). -/
theorem nopOnlyAdvancesPc : Obligations.NopOnlyAdvancesPc := by
  intro s
  exact exec_of_inner (op := nopOp) rfl s

end Sys2Proof.Machine
end

section
/-! Branches, jumps and subroutines (45_branch_jump_subroutine.md, R210-R221): the instructions that write PC, and the two bytes that
JSR leaves on the stack for RTS. -/

namespace Sys2Proof.Machine

/-- The rows in Relative mode have 2 base cycles, and pay for a branch taken (R101; D14). -/
theorem entry_of_relative {b : Byte} {e : Entry} (h : opcodeEntry b = some e) (hm : e.mode = .relative) :
    e.baseCycles = 2 ∧ e.penalty = .branch := by
  have rows : ∀ r ∈ opcodeRows, r.2.mode = .relative → r.2.baseCycles = 2 ∧ r.2.penalty = .branch := by decide +kernel
  exact rows (b, e) (opcodeEntry_mem h) hm

/-- A branch writes PC alone (R210). -/
theorem exec_of_branch {i : Instr} {cond : Flags → Bool} {d : Byte} (h : Action.of i.mnemonic = .branch cond)
    (hd : i.operand = .relative d) (s : State) :
    exec i s = .next { s with pc := if cond s.p then branchTarget d s else s.pc + 2 } := by
  obtain ⟨t, ht, -⟩ := exec_frame i s
  have heff := exec_effect ht
  rw [h, hd] at heff
  rw [ht]
  cases heff with
  | branch ho => cases ho; rfl

/-- The cost of a branch from the pages `p` of its target and `q` of the next instruction (R127). -/
theorem branchCycles_eq (p q : Byte) (taken : Bool) :
    2 + extraCycles .branch (p != q) taken = if taken then (if p = q then 3 else 4) else 2 := by
  cases taken with
  | false => rfl
  | true => by_cases h : p = q <;> simp [extraCycles, h]

/-- A branch costs 2 cycles, one more if it is taken, and one more again if it is taken into another page (R127). -/
theorem instrCycles_of_branch {i : Instr} {cond : Flags → Bool} {d : Byte} (h : Action.of i.mnemonic = .branch cond)
    (hd : i.operand = .relative d) (s : State) :
    instrCycles i s = if cond s.p then (if hi (branchTarget d s) = hi (s.pc + 2) then 3 else 4) else 2 := by
  obtain ⟨e, he, -, hm⟩ := opcodeEntry_opcode i
  obtain ⟨hbase, hpen⟩ := entry_of_relative he (by rw [hm, hd]; rfl)
  simp only [instrCycles, baseCycles, instrExtra, he, hbase, hpen, branchTaken, h, hd, resolve, Action.taken]
  exact branchCycles_eq _ _ _

/-- Settles O35: each of the eight is a branch on the condition named, in Relative mode. -/
theorem branchesReplacePcWhenTheirFlagHolds : Obligations.BranchesReplacePcWhenTheirFlagHolds := by
  intro i s d holds h
  obtain ⟨cond, hact, hd, rfl⟩ : ∃ cond : Flags → Bool, Action.of i.mnemonic = .branch cond ∧
      i.operand = .relative d ∧ holds = cond s.p := by
    obtain ⟨rfl, rfl⟩ | ⟨rfl, rfl⟩ | ⟨rfl, rfl⟩ | ⟨rfl, rfl⟩ | ⟨rfl, rfl⟩ | ⟨rfl, rfl⟩ | ⟨rfl, rfl⟩ | ⟨rfl, rfl⟩ := h <;>
      exact ⟨_, rfl, rfl, rfl⟩
  exact ⟨branchTarget d s, rfl, exec_of_branch hact hd s, instrCycles_of_branch hact hd s⟩

/-- A jump takes the effective address into PC and writes nothing else (R219). -/
theorem exec_of_jump {i : Instr} {s : State} {ea : Word} (h : Action.of i.mnemonic = .jump)
    (hea : (resolve i.operand s).1 = some ea) : exec i s = .next { s with pc := ea } := by
  obtain ⟨t, ht, -⟩ := exec_frame i s
  have heff := exec_effect ht
  rw [h] at heff
  rw [ht]
  cases heff with
  | jump hea' => rw [Option.some.inj (hea'.symm.trans hea)]

/-- Settles O36: both forms are jumps, and the effective address of a pointer is the word read through it. -/
theorem jumpsTakeTheResolvedAddress : Obligations.JumpsTakeTheResolvedAddress :=
  fun _ _ => ⟨exec_of_jump rfl rfl, exec_of_jump rfl rfl⟩

/-- What two pushes leave at the two stack addresses, and elsewhere (R230). -/
theorem State.push_push_reads (s : State) (v w : Byte) :
    ((s.push v).push w).read (w16 s.cfg.stackPage s.sp) = v ∧
      ((s.push v).push w).read (w16 s.cfg.stackPage (s.sp - 1)) = w ∧
      ∀ a : Word, a ≠ w16 s.cfg.stackPage s.sp → a ≠ w16 s.cfg.stackPage (s.sp - 1) →
        ((s.push v).push w).read a = s.read a := by
  have hne : w16 s.cfg.stackPage s.sp ≠ (s.push v).stackAddr := stackAddr_ne (byte_sub_one_ne s.sp).symm
  refine ⟨?_, State.read_push_same (s.push v) w, fun a h0 h1 => ?_⟩
  · rw [State.read_push_other _ _ hne]; exact State.read_push_same s v
  · rw [State.read_push_other _ _ h1]; exact State.read_push_other s v h0

/-- JSR pushes the address of its last byte, high byte first, and jumps (R220). -/
theorem exec_jsr (w : Word) (s : State) : exec (.jsr w) s =
    .next { (s.push (hi (s.pc + 2))).push (lo (s.pc + 2)) with pc := w } := by
  have hret : s.pc + 2 = (s.advance 3).pc - 1 := by rw [State.advance_pc]; bv_omega
  rw [hret]; rfl

/-- Settles O37: the state is that of `exec_jsr`, and its stack bytes and frame are those of two pushes. -/
theorem jsrPushesTheReturnAddress : Obligations.JsrPushesTheReturnAddress := by
  intro w s
  obtain ⟨hhigh, hlow, hframe⟩ := State.push_push_reads s (hi (s.pc + 2)) (lo (s.pc + 2))
  refine ⟨_, exec_jsr w s, ?_, hhigh, hlow, hframe⟩
  rw [← byte_sub_one_sub_one]; rfl

/-- Settles O38: RTS pulls twice, so that its bytes stand one and two above S. -/
theorem rtsReturnsPastThePulledAddress : Obligations.RtsReturnsPastThePulledAddress := by
  intro s
  rw [← byte_add_one_add_one]; rfl

/-- Settles O39: S two below the old one puts the bytes that RTS pulls where JSR pushed them, and those are the two halves of the
address of its last byte. -/
theorem jsrThenRtsComesBack : Obligations.JsrThenRtsComesBack := by
  intro w s
  obtain ⟨t, ht, hstate, hhigh, hlow, hframe⟩ := jsrPushesTheReturnAddress w s
  refine ⟨t, _, ht, rtsReturnsPastThePulledAddress t, ?_, hframe⟩
  have hsp2 : t.sp + 2 = s.sp := by rw [hstate]; exact BitVec.sub_add_cancel s.sp 2
  have hsp1 : t.sp + 1 = s.sp - 1 := by rw [hstate, ← byte_sub_one_sub_one]; exact BitVec.sub_add_cancel (s.sp - 1) 1
  have hcfg : t.cfg = s.cfg := by rw [hstate]
  have hpc : s.pc + 2 + 1 = s.pc + 3 := by bv_omega
  rw [hsp2, hsp1, hcfg, hhigh, hlow, w16_hi_lo, hpc, hstate]

end Sys2Proof.Machine
end

section
/-! Pushes and pulls (46_stack_brk_rti.md sections 1 and 2, R230-R236): what one push, a push then a pull, and a run of pushes
leave. -/

namespace Sys2Proof.Machine

/-- An instruction whose action is a push pushes its value with PC past its one byte (R233, R234). -/
theorem exec_of_push {i : Instr} {val : State → Byte} (h : Action.of i.mnemonic = .push val) (s : State) :
    exec i s = .next (State.push { s with pc := s.pc + 1 } (val s)) := by
  cases i <;> cases h <;> rfl

/-- An instruction whose action is a pull runs its operation on the byte pulled, with PC past its one byte (R235, R236). -/
theorem exec_of_pull {i : Instr} {op : Byte → State → State} (h : Action.of i.mnemonic = .pull op) (s : State) :
    exec i s = .next (op s.top { s with sp := s.sp + 1, pc := s.pc + 1 }) := by
  cases i <;> cases h <;> rfl

/-- Settles O40: both are pushes, and the byte and the frame are those of one push. -/
theorem pushesWriteTheStackByte : Obligations.PushesWriteTheStackByte := by
  intro i s v h
  obtain ⟨val, hact, rfl⟩ : ∃ val : State → Byte, Action.of i.mnemonic = .push val ∧ v = val s := by
    obtain ⟨rfl, rfl⟩ | ⟨rfl, rfl⟩ := h <;> exact ⟨_, rfl, rfl⟩
  exact ⟨_, exec_of_push hact s, rfl, State.read_push_same _ _, fun _ ha => State.read_push_other _ _ ha⟩

/-- A pull right after a push runs its operation on the byte pushed, with S as it was before the push (R230, R231). -/
theorem exec_pull_of_push {i : Instr} {op : Byte → State → State} (h : Action.of i.mnemonic = .pull op) (s : State)
    (v : Byte) : exec i (s.push v) = .next (op v { s with pc := s.pc + 1, mem := (s.push v).mem }) := by
  rw [exec_of_pull h, State.top_push, State.push_sp, byte_sub_one_add_one]
  rfl

/-- SetZN changes nothing exactly where Z and N already are those of the byte (R160). -/
theorem Flags.setZN_eq_self_iff (f : Flags) (v : Byte) :
    f.setZN v = f ↔ f.z = decide (v = 0) ∧ f.n = v.getLsbD 7 :=
  ⟨fun h => ⟨congrArg Flags.z h.symm, congrArg Flags.n h.symm⟩, fun ⟨hz, hn⟩ => by rw [Flags.setZN, ← hz, ← hn]⟩

/-- Settles O42: the byte pulled is the one pushed; PLP restores the flags from their own status byte, and PLA sets Z and N. -/
theorem pushThenPullRestores : Obligations.PushThenPullRestores := by
  intro s
  have hpc : s.pc + 1 + 1 = s.pc + 2 := BitVec.add_assoc s.pc 1 1
  refine ⟨⟨_, _, exec_of_push rfl s, exec_pull_of_push rfl _ _, ?_⟩,
    ⟨_, _, exec_of_push rfl s, exec_pull_of_push rfl _ _, ?_, Flags.setZN_eq_self_iff s.p s.a⟩⟩
  · rw [plpTake, restoreFlags_status, ← hpc]
  · rw [← hpc]; rfl

theorem byte_sub_ofNat_succ (x : Byte) (k : Nat) : x - BitVec.ofNat 8 (k + 1) = x - 1 - BitVec.ofNat 8 k := by
  rw [Nat.add_comm, BitVec.ofNat_add, ← BitVec.sub_sub]; rfl

/-- Fewer than 256 bytes apart, an offset into the stack page does not come back to itself. -/
theorem byte_sub_ofNat_ne (x : Byte) {k : Nat} (h0 : 0 < k) (h : k < 256) : x - BitVec.ofNat 8 k ≠ x := by
  bv_omega

theorem State.foldl_push_sp (vs : List Byte) (s : State) :
    (vs.foldl State.push s).sp = s.sp - BitVec.ofNat 8 vs.length := by
  induction vs generalizing s with
  | nil => exact (BitVec.sub_zero s.sp).symm
  | cons v vs ih => rw [List.foldl_cons, ih, State.push_sp, List.length_cons, byte_sub_ofNat_succ]

theorem stackAddr_sub_zero (s : State) : w16 s.cfg.stackPage (s.sp - BitVec.ofNat 8 0) = s.stackAddr :=
  congrArg (w16 s.cfg.stackPage) (BitVec.sub_zero s.sp)

/-- A run of pushes leaves every address but those it pushes to. -/
theorem State.read_foldl_push_other {vs : List Byte} {s : State} {a : Word}
    (h : ∀ k < vs.length, a ≠ w16 s.cfg.stackPage (s.sp - BitVec.ofNat 8 k)) :
    (vs.foldl State.push s).read a = s.read a := by
  induction vs generalizing s with
  | nil => rfl
  | cons v vs ih =>
    have h0 : a ≠ s.stackAddr := by simpa only [stackAddr_sub_zero] using h 0 (Nat.succ_pos _)
    have hrest : ∀ k < vs.length, a ≠ w16 s.cfg.stackPage (s.sp - 1 - BitVec.ofNat 8 k) := fun k hk => by
      rw [← byte_sub_ofNat_succ]; exact h (k + 1) (Nat.succ_lt_succ hk)
    rw [List.foldl_cons, ih hrest, State.read_push_other s v h0]

/-- Up to 256 pushes overwrite none of their own bytes: the k-th stands k below the first. -/
theorem State.read_foldl_push {vs : List Byte} {s : State} {k : Nat} {v : Byte} (hlen : vs.length ≤ 256)
    (hv : vs[k]? = some v) :
    (vs.foldl State.push s).read (w16 s.cfg.stackPage (s.sp - BitVec.ofNat 8 k)) = v := by
  induction vs generalizing s k with
  | nil => cases hv
  | cons w vs ih =>
    cases k with
    | zero =>
      obtain rfl : w = v := Option.some.inj hv
      have hother : ∀ j < vs.length, s.stackAddr ≠ w16 s.cfg.stackPage (s.sp - 1 - BitVec.ofNat 8 j) := fun j hj => by
        rw [← byte_sub_ofNat_succ]
        exact stackAddr_ne (byte_sub_ofNat_ne s.sp (Nat.succ_pos j) (Nat.lt_of_lt_of_le (Nat.succ_lt_succ hj) hlen)).symm
      rw [stackAddr_sub_zero, List.foldl_cons, State.read_foldl_push_other hother, State.read_push_same]
    | succ k =>
      rw [byte_sub_ofNat_succ]
      exact ih (Nat.le_of_succ_le hlen) hv

/-- Settles O43: 256 is 0 as a byte, so that S comes back; the bytes and the frame are those of any run of up to 256 pushes. -/
theorem pushesWrapTheWholeStackPage : Obligations.PushesWrapTheWholeStackPage := by
  intro s vs hlen
  refine ⟨?_, fun k hk => ?_, fun a ha => State.read_foldl_push_other fun k _ hak => ha ?_⟩
  · rw [State.foldl_push_sp, hlen]; exact BitVec.sub_zero s.sp
  · have hv : vs[k]? = some (vs[k]'(hlen ▸ hk)) := List.getElem?_eq_getElem _
    rw [State.read_foldl_push hlen.le hv, hv]
  · rw [hak, hi_w16]

end Sys2Proof.Machine
end

section
/-! Entering and leaving a handler by instruction (46_stack_brk_rti.md section 3, R237 and R238). -/

namespace Sys2Proof.Machine

/-- BRK enters the handler of the IRQ/BRK vector with PC past its opcode (R237). -/
theorem exec_brk (s : State) : exec .brk s =
    .next (enterHandler true (s.pc + s.cfg.brkReturnOffset.toWord) irqVector (s.past .implied)) := by
  have hpc : s.pc = (s.past .implied).pc - 1 := (BitVec.add_sub_cancel s.pc 1).symm
  conv_rhs => rw [hpc]
  rfl

/-- Settles O44: the stack bytes and the frame are those of the three pushes of an entry. -/
theorem brkEntersTheHandler : Obligations.BrkEntersTheHandler := by
  intro s ret h
  obtain rfl : ret = s.pc + s.cfg.brkReturnOffset.toWord := by
    obtain ⟨hoff, rfl⟩ | ⟨hoff, rfl⟩ := h <;> rw [hoff] <;> rfl
  obtain ⟨hhigh, hlow, hstatus, hframe⟩ :=
    State.pushFrame_reads (s.past .implied) true (s.pc + s.cfg.brkReturnOffset.toWord)
  refine ⟨_, exec_brk s, hhigh, hlow, hstatus, hframe, ?_⟩
  rw [← byte_sub_two_sub_one, ← byte_sub_one_sub_one]; rfl

/-- Settles O45: RTI pulls three times, so that its bytes stand one, two and three above S. -/
theorem rtiRestoresFlagsAndPc : Obligations.RtiRestoresFlagsAndPc := by
  intro s
  rw [← byte_add_two_add_one, ← byte_add_one_add_one]; rfl

end Sys2Proof.Machine
end

section
/-! The decoder against the encoder and the table (30_encoding.md sections 1 and 3): the bytes a decoded instruction came from,
the unmapped bytes (R104), and the pairings of an operation with an addressing mode. -/

namespace Sys2Proof.Machine

/-- The bytes that a mode reads its operand from are the first of the two after the opcode, as many as its length says
(R81-R83). -/
theorem bytes_operandOf (m : Mode) (b1 b2 : Byte) : (operandOf m b1 b2).bytes = [b1, b2].take (m.length - 1) := by
  cases m with
  | absolute | absoluteX | absoluteY | indirect => simp [operandOf, Operand.bytes, MemRef.bytes, Mode.length]
  | _ => rfl

/-- A decoded instruction encodes to the bytes it was decoded from, as many as its length says. -/
theorem encode_of_decodeOpcode {b0 b1 b2 : Byte} {i : Instr} (h : decodeOpcode b0 b1 b2 = some i) :
    encode i = [b0, b1, b2].take i.length := by
  obtain ⟨hopc, ho⟩ := decodeOpcode_eq_some h
  have hbytes : i.operand.bytes = [b1, b2].take (i.operand.mode.length - 1) :=
    (congrArg Operand.bytes ho).trans (bytes_operandOf _ _ _)
  have hlen : i.length = i.operand.mode.length - 1 + 1 := by
    rw [Instr.length]; cases i.operand.mode <;> rfl
  rw [encode, hopc, hbytes, hlen, List.take_succ_cons]

/-- The mode of a decoded instruction is that of its opcode's row. -/
theorem mode_of_decodeOpcode {b0 b1 b2 : Byte} {e : Entry} {i : Instr} (he : opcodeEntry b0 = some e)
    (h : decodeOpcode b0 b1 b2 = some i) : i.operand.mode = e.mode := by
  obtain ⟨hopc, -⟩ := decodeOpcode_eq_some h
  obtain ⟨e', he', -, hm⟩ := opcodeEntry_opcode i
  rw [hopc, he] at he'
  rw [← hm, Option.some.inj he']

/-- What a list of bytes decodes to is fetched from its first bytes, as many as the instruction has, and the rest is what stands
after them (R83). -/
theorem decode_eq_instr {bs : List Byte} {i : Instr} {rest : List Byte} (h : decode bs = .instr i rest) :
    ∃ b0 b1 b2, decodeOpcode b0 b1 b2 = some i ∧ bs = [b0, b1, b2].take i.length ++ rest := by
  cases bs with
  | nil => cases h
  | cons b0 bs =>
    cases he : opcodeEntry b0 with
    | none => simp only [decode, he] at h; cases h
    | some e =>
      simp only [decode, he] at h
      split at h
      case h_4 => cases h
      all_goals
        next hl =>
        have hi := ofOption_eq_instr h
        rw [hi] at h
        cases h
        exact ⟨_, _, _, hi, by rw [Instr.length, mode_of_decodeOpcode he hi, hl]; rfl⟩

/-- Settles O2: the bytes decoded are the first bytes of the list, and an instruction encodes to the bytes it was decoded from. -/
theorem encodingADecodingGivesTheBytesBack : Obligations.EncodingADecodingGivesTheBytesBack := by
  intro bs i rest h
  obtain ⟨b0, b1, b2, hi, hbs⟩ := decode_eq_instr h
  rw [hbs, encode_of_decodeOpcode hi]

/-- Settles O3: each word is the encoding of the instruction the grid gives it. -/
theorem wordsOfTheGridDecode : Obligations.WordsOfTheGridDecode :=
  ⟨decodingAnEncodingGivesItBack (.ldaImmediate 0x80) [], decodingAnEncodingGivesItBack (.jmpIndirect 0x0300) [],
    decodingAnEncodingGivesItBack (.staIndirectY 0x20) [], decodingAnEncodingGivesItBack (.bne 0xFB) [],
    decodingAnEncodingGivesItBack .rorAccumulator [], decodingAnEncodingGivesItBack .brk []⟩

/-- A byte is rejected by name exactly where the table has no row for it, whatever follows (R104). -/
theorem decode_eq_unmapped_iff {b : Byte} {rest : List Byte} : decode (b :: rest) = .unmapped b ↔ opcodeEntry b = none := by
  cases he : opcodeEntry b with
  | none => simp only [decode, he]
  | some e =>
    have found (b1 b2 : Byte) : ∃ i, decodeOpcode b b1 b2 = some i := by
      simpa only [decodeOpcode, he] using entry_assembles he b1 b2
    refine iff_of_false (fun h => ?_) (Option.some_ne_none e)
    simp only [decode, he] at h
    split at h
    case h_4 => cases h
    all_goals
      obtain ⟨i, hi⟩ := found _ _
      rw [hi] at h
      cases h

/-- Settles O4: the bytes without a row are found by looking all 256 up in the table. -/
theorem unmappedBytesAreRejectedByName : Obligations.UnmappedBytesAreRejectedByName := by
  intro b rest
  rw [decode_eq_unmapped_iff]
  revert b
  decide +kernel

/-- Every operand is what its mode makes of some two bytes (R81, R82). -/
theorem exists_operandOf (o : Operand) : ∃ b1 b2, operandOf o.mode b1 b2 = o := by
  cases o with
  | implied | accumulator => exact ⟨0, 0, rfl⟩
  | immediate v => exact ⟨v, 0, rfl⟩
  | relative d => exact ⟨d, 0, rfl⟩
  | memory r =>
    cases r with
    | absolute w | absoluteX w | absoluteY w | indirect w =>
      exact ⟨lo w, hi w, by simp [operandOf, Operand.mode, MemRef.mode]⟩
    | _ b => exact ⟨b, 0, rfl⟩

/-- Every pairing of the Encoding lines is a row of the opcode grid (R101). -/
theorem exists_entry_of_mem_modes {op : Mnemonic} {m : Mode} (h : m ∈ op.modes) :
    ∃ b e, opcodeEntry b = some e ∧ e.op = op ∧ e.mode = m := by
  have lines : ∀ m ∈ op.modes, ∃ r ∈ opcodeRows, r.2.op = op ∧ r.2.mode = m := by cases op <;> decide +kernel
  have lookup : ∀ r ∈ opcodeRows, opcodeEntry r.1 = some r.2 := by decide +kernel
  obtain ⟨r, hr, hop, hm⟩ := lines m h
  exact ⟨r.1, r.2, lookup r hr, hop, hm⟩

/-- Settles O5: a pairing of the Encoding lines has a row, and every row assembles to an instruction; the other way is the family
Encoding. -/
theorem formsAreThoseOfTheInstructions : Obligations.FormsAreThoseOfTheInstructions := by
  intro f
  constructor
  · intro hwf
    obtain ⟨b, e, he, hop, hm⟩ := exists_entry_of_mem_modes (List.contains_iff_mem.mp hwf)
    obtain ⟨b1, b2, ho⟩ := exists_operandOf f.operand
    obtain ⟨i, hi⟩ := entry_assembles he b1 b2
    rw [hop, hm, ho] at hi
    obtain ⟨hop', ho'⟩ := assemble_eq_some hi
    exact ⟨i, by rw [Instr.form, hop', ho']⟩
  · rintro ⟨i, rfl⟩
    obtain ⟨hwf, -, -⟩ := encoding_holds i
    exact hwf

end Sys2Proof.Machine
end

section
/-! The cost of an instruction (70_reset_and_hazards.md section 4, 40_execution_engine.md R127): its row's base cycles, and its
extra cycles by penalty class. -/

namespace Sys2Proof.Machine

/-- The row of an instruction's opcode. -/
theorem exists_row (i : Instr) : ∃ r ∈ opcodeRows, opcodeEntry i.opcode = some r.2 ∧ r.2.op = i.mnemonic ∧
    r.2.mode = i.operand.mode := by
  obtain ⟨e, he, hop, hm⟩ := opcodeEntry_opcode i
  exact ⟨(i.opcode, e), opcodeEntry_mem he, he, hop, hm⟩

/-- Settles O7: the base cycles of an instruction are those of its opcode's row, and the 151 rows follow the summary. -/
theorem baseCyclesFollowTheModes : Obligations.BaseCyclesFollowTheModes := by
  intro i
  obtain ⟨r, hr, he, hop, hm⟩ := exists_row i
  simp only [baseCycles, he, ← hop, ← hm]
  clear he hop hm
  revert r
  decide +kernel

/-- The extra cycles of a branch from the pages `p` of its target and `q` of the next instruction (R127). -/
theorem extraCycles_branch (p q : Byte) (taken : Bool) :
    extraCycles .branch (p != q) taken = if taken then (if p = q then 1 else 2) else 0 := by
  cases taken with
  | false => rfl
  | true => by_cases h : p = q <;> simp [extraCycles, h]

/-- A branch pays 1 when taken, and 1 more into another page (R127). -/
theorem instrExtra_of_relative {i : Instr} {d : Byte} (hd : i.operand = .relative d) (s : State) : instrExtra i s =
    if branchTaken i s then (if hi (branchTarget d s) = hi (s.pc + 2) then 1 else 2) else 0 := by
  obtain ⟨e, he, -, hm⟩ := opcodeEntry_opcode i
  obtain ⟨-, hpen⟩ := entry_of_relative he (by rw [hm, hd]; rfl)
  simp only [instrExtra, he, hpen, hd, resolve]
  exact extraCycles_branch _ _ _

/-- Settles O8: the three classes of row are the penalised reads, the branches and those of fixed cost. -/
theorem pageCrossCostByClass : Obligations.PageCrossCostByClass :=
  fun _ s => ⟨rfl, fun hop => instrExtra_of_penalisedRead hop s, fun _ hd => instrExtra_of_relative hd s,
    fun hop hm => instrExtra_of_fixedCost hop hm s⟩

end Sys2Proof.Machine
end

section
/-! Effective addresses and page crossings on numbers (30_encoding.md section 2, R91-R96). -/

namespace Sys2Proof.Machine

theorem toNat_add_zext16 (w : Word) (x : Byte) : (w + zext16 x).toNat = (w.toNat + x.toNat) % 65536 := by
  rw [BitVec.toNat_add, zext16_toNat]

/-- An index changes the high byte exactly where the low byte and the index carry (R92, R93, R96). -/
theorem hi_add_zext16_ne (w : Word) (x : Byte) :
    (hi (w + zext16 x) != hi w) = true ↔ 256 ≤ w.toNat % 256 + x.toNat := by
  have hw := w.isLt
  have hx := x.isLt
  rw [bne_iff_ne, ne_eq, BitVec.toNat_eq, hi_toNat, hi_toNat, toNat_add_zext16]
  omega

/-- Settles O10: both indexed modes add their index to the operand. -/
theorem absoluteAddressesAndTheirCrossings : Obligations.AbsoluteAddressesAndTheirCrossings :=
  fun w s => ⟨rfl, rfl, toNat_add_zext16 w s.x, hi_add_zext16_ne w s.x, toNat_add_zext16 w s.y, hi_add_zext16_ne w s.y⟩

/-- The address after a pointer, where it does not wrap within the page (R94). -/
theorem pointerHighAddr_of_noWrap {s : State} (h : s.cfg.jmpIndPageWrap = false) (w : Word) :
    pointerHighAddr w s = w + 1 := by
  simp only [pointerHighAddr, h, Bool.false_eq_true, if_false]

/-- The address after a pointer, where it wraps within the page (R94; D9). -/
theorem pointerHighAddr_of_wrap {s : State} (h : s.cfg.jmpIndPageWrap = true) (w : Word) :
    pointerHighAddr w s = w16 (hi w) (lo w + 1) := by
  simp only [pointerHighAddr, h, if_true]

/-- Settles O11: the high byte is read at `pointerHighAddr`, whose value is said for each value of the parameter. -/
theorem indirectTargetsFollowTheWrapParameter : Obligations.IndirectTargetsFollowTheWrapParameter := by
  intro w s
  refine ⟨pointerHighAddr w s, rfl, rfl, fun h => ?_, fun h => ?_⟩
  · rw [pointerHighAddr_of_noWrap h, BitVec.toNat_add]; rfl
  · rw [pointerHighAddr_of_wrap h]
    constructor
    · rw [← hi_toNat, hi_w16, hi_toNat]
    · rw [← lo_toNat, lo_w16, BitVec.toNat_add, lo_toNat]; rfl

/-- A page-zero address as a number. -/
theorem zext16_ofNat (n : Nat) : zext16 (BitVec.ofNat 8 n) = BitVec.ofNat 16 (n % 256) := by
  apply BitVec.eq_of_toNat_eq
  rw [zext16_toNat, BitVec.toNat_ofNat, BitVec.toNat_ofNat]
  omega

/-- The word a pointer in page zero holds, its two addresses taken mod 256 (R55; D10). -/
theorem read16zp_ofNat_toNat (n : Nat) (s : State) : (s.read16zp (BitVec.ofNat 8 n)).toNat =
    (s.read (BitVec.ofNat 16 (n % 256))).toNat + 256 * (s.read (BitVec.ofNat 16 ((n + 1) % 256))).toNat := by
  have hnext : BitVec.ofNat 8 n + 1 = BitVec.ofNat 8 (n + 1) := (BitVec.ofNat_add n 1).symm
  rw [State.read16zp, w16_toNat, hnext, zext16_ofNat, zext16_ofNat, Nat.mul_comm, Nat.add_comm]

/-- Settles O12: both modes read their pointer from page zero, IndirectX at the indexed operand; IndirectY indexes the word
read. -/
theorem zeroPagePointerAddresses : Obligations.ZeroPagePointerAddresses := by
  intro b s at16
  have hx : b + s.x = BitVec.ofNat 8 (b.toNat + s.x.toNat) := by
    rw [BitVec.ofNat_add, BitVec.ofNat_toNat, BitVec.ofNat_toNat]; simp
  have hb : (s.read16zp b).toNat = at16 b.toNat := by
    simpa only [BitVec.ofNat_toNat, BitVec.setWidth_eq] using read16zp_ofNat_toNat b.toNat s
  refine ⟨?_, rfl, ?_, ?_⟩
  · rw [MemRef.ea, hx]; exact read16zp_ofNat_toNat _ s
  · rw [← hb]; exact toNat_add_zext16 _ _
  · rw [← hb]; exact hi_add_zext16_ne _ _

end Sys2Proof.Machine
end

section
/-! Loads, compares and pulls (41_load_store_transfer.md section 1, 42_arithmetic_logic.md section 4, 46_stack_brk_rti.md sections 1
and 2): operations on the operand byte, or on the byte pulled. -/

namespace Sys2Proof.Machine

/-- Settles O22: each load is a read whose operation puts the byte into the register, with Z and N by `Flags.setZN`. -/
theorem loadsTakeTheOperandAndSetZN : Obligations.LoadsTakeTheOperandAndSetZN :=
  fun _ s => ⟨fun h => exec_of_read (op := ldaOp) (by rw [h]; rfl) s, fun h => exec_of_read (op := ldxOp) (by rw [h]; rfl) s,
    fun h => exec_of_read (op := ldyOp) (by rw [h]; rfl) s⟩

/-- Settles O28: each compare is a read whose operation writes the flags of Compare on its register, and those differ from the old
ones in C, Z and N alone. -/
theorem comparesWriteCarryZeroNegative : Obligations.ComparesWriteCarryZeroNegative := by
  intro i s r h
  obtain ⟨op, hact, hop⟩ : ∃ op : Byte → State → State, Action.of i.mnemonic = .read op ∧
      ∀ m, op m (s.past i.operand.mode) = { s.past i.operand.mode with p := compareFlags r m s.p } := by
    obtain ⟨h, rfl⟩ | ⟨h, rfl⟩ | ⟨h, rfl⟩ := h <;> rw [h] <;> exact ⟨_, rfl, fun _ => rfl⟩
  obtain ⟨m, hm, hx⟩ := exec_of_read hact s
  rw [hop] at hx
  exact ⟨m, _, hm, hx, rfl, compareFlags_c r m s.p, compareFlags_z r m s.p, compareFlags_n r m s.p⟩

/-- Settles O41: both are pulls, PLA's operation taking the byte into A and PLP's into the flags. -/
theorem pullsTakeTheStackByte : Obligations.PullsTakeTheStackByte := by
  rintro s v rfl
  exact ⟨exec_of_pull (op := plaTake) rfl s, exec_of_pull (op := plpTake) rfl s⟩

end Sys2Proof.Machine
end

section
/-! What the interrupt check makes of a step (60_exceptions.md sections 1 to 3, R250-R258; 70_reset_and_hazards.md section 3): a
serviced request, a masked one, and the decode error of an unmapped opcode. -/

namespace Sys2Proof.Machine

/-- Settles O52: the frame of the requests, the latch and the parameters. -/
theorem executionNeverFails : Obligations.ExecutionNeverFails := exec_frame

theorem faultedState_proceed {s t : State} (h : s.fault = none) (hc : interruptCheck s = .proceed t) :
    faultedState s = latchDecodeError t := by simp only [faultedState, h, hc]

theorem stepAccesses_unmapped {s t : State} (h : s.fault = none) (hc : interruptCheck s = .proceed t)
    (hi : fetchInstr t = none) : stepAccesses s = [readAt t t.pc] := by simp only [stepAccesses, h, hc, hi]

theorem stepCost_unmapped {s t : State} (h : s.fault = none) (hc : interruptCheck s = .proceed t)
    (hi : fetchInstr t = none) : stepCost s = 0 := by simp only [stepCost, h, hc, hi]

/-- Settles O17: the interrupt check lets the fetch go on from the same PC and memory, and nothing is fetched. -/
theorem unmappedOpcodesFault : Obligations.UnmappedOpcodesFault := by
  intro s hf hn hi he
  have hc := interruptCheck_proceed hn hi
  have hnone : fetchInstr { s with irqPending := s.irqPending && !s.cfg.irqMaskedDiscard } = none :=
    fetchInstr_eq_none.mpr he
  have hstep := step_unmapped hf hc hnone
  have hacc := stepAccesses_unmapped hf hc hnone
  refine ⟨hstep, ?_, hacc, stepCost_unmapped hf hc hnone⟩
  rw [afterStep_of_fault hstep, faultedState_proceed hf hc]
  rfl

/-- An NMI request is serviced first, whatever I and the IRQ request (R252, R253). -/
theorem interruptCheck_nmi {s : State} (hn : s.nmiPending = true) :
    interruptCheck s = .service nmiVector { s with nmiPending := false } := if_pos hn

/-- An IRQ request that I does not mask is serviced (R252). -/
theorem interruptCheck_irq {s : State} (hn : s.nmiPending = false) (hq : s.irqPending = true) (hi : s.p.i = false) :
    interruptCheck s = .service irqVector { s with irqPending := false } := by
  simp [interruptCheck, hn, hq, hi]

/-- A masked request is dropped under IRQ_MASKED_DISCARD (R254; D7). -/
theorem interruptCheck_masked_discard {s : State} (hn : s.nmiPending = false) (hq : s.irqPending = true)
    (hi : s.p.i = true) (hd : s.cfg.irqMaskedDiscard = true) :
    interruptCheck s = interruptCheck { s with irqPending := false } := by
  simp [interruptCheck, hn, hq, hi, hd]

/-- A masked request is kept otherwise (R252; D7). -/
theorem interruptCheck_masked_keep {s : State} (hn : s.nmiPending = false) (hi : s.p.i = true)
    (hd : s.cfg.irqMaskedDiscard = false) : interruptCheck s = .proceed s := by
  simp [interruptCheck, hn, hi, hd]

/-- A step depends on the latch and on what the interrupt check decides. -/
theorem step_congr {s t : State} (hf : s.fault = t.fault) (hc : interruptCheck s = interruptCheck t) :
    step s = step t := by
  simp only [step, hf, hc]

/-- A step that executes an instruction or faults from its own state keeps an IRQ request (R31, R123). -/
theorem afterStep_irqPending {s : State} (hf : s.fault = none) (hc : interruptCheck s = .proceed s) :
    (afterStep s).irqPending = s.irqPending := by
  cases hi : fetchInstr s with
  | some i =>
    obtain ⟨t, ht, hirq, -⟩ := exec_frame i s
    simp only [afterStep, step_execute hf hc hi, ht, hirq]
  | none =>
    rw [afterStep_of_fault (step_unmapped hf hc hi), faultedState_proceed hf hc, latchDecodeError_irqPending]

/-- Settles O19: one clause for each answer of the interrupt check. -/
theorem theInterruptCheckDecidesEachStep : Obligations.TheInterruptCheckDecidesEachStep := by
  intro s hf
  refine ⟨fun hn => ?_, fun hn hq hi => ?_, fun hn hq hi hd => ?_, fun hn hq hi hd => ?_⟩
  · have hc := interruptCheck_nmi hn
    exact ⟨step_service hf hc, stepCost_service hf hc⟩
  · have hc := interruptCheck_irq hn hq hi
    exact ⟨step_service hf hc, stepCost_service hf hc⟩
  · exact step_congr rfl (interruptCheck_masked_discard hn hq hi hd)
  · have hc := interruptCheck_masked_keep hn hi hd
    exact ⟨fun i hfetch => step_execute hf hc hfetch, (afterStep_irqPending hf hc).trans hq⟩

/-- Settles O21: CLI clears I and leaves the requests, so that the check before the next instruction services the IRQ (D21). -/
theorem cliLetsAPendingIrqInAtOnce : Obligations.CliLetsAPendingIrqInAtOnce :=
  fun s hf hn hq => ⟨_, exec_of_inner (op := cliOp) rfl s, step_service hf (interruptCheck_irq hn hq rfl), rfl⟩

end Sys2Proof.Machine
end

section
/-! Interrupt entry and the return from it (60_exceptions.md sections 3 and 4, R256 and R261). -/

namespace Sys2Proof.Machine

/-- Settles O20: the stack bytes and the frame are those of the three pushes of an entry. -/
theorem interruptEntrySavesPcAndStatus : Obligations.InterruptEntrySavesPcAndStatus := by
  intro vec s
  obtain ⟨hhigh, hlow, hstatus, hframe⟩ := State.pushFrame_reads s false s.pc
  refine ⟨_, rfl, hhigh, hlow, hstatus, hframe, ?_⟩
  rw [← byte_sub_two_sub_one, ← byte_sub_one_sub_one]; rfl

/-- RTI right after an entry pulls the three bytes that it pushed: PC is the return address, and S and the flags are as before the
entry (R261). -/
theorem exec_rti_of_enterHandler (brk : Bool) (ret vec : Word) (s : State) : exec .rti (enterHandler brk ret vec s) =
    .next { s with pc := ret, mem := (enterHandler brk ret vec s).mem } := by
  obtain ⟨hhigh, hlow, hstatus, -⟩ := State.pushFrame_reads s brk ret
  have hsp1 : s.sp - 1 - 1 - 1 + 1 = s.sp - 2 := by bv_omega
  have hsp2 : s.sp - 1 - 1 - 1 + 2 = s.sp - 1 := by bv_omega
  have hsp3 : s.sp - 1 - 1 - 1 + 3 = s.sp := by bv_omega
  have hread (a : Word) : (enterHandler brk ret vec s).read a = (s.pushFrame brk ret).read a := rfl
  rw [rtiRestoresFlagsAndPc]
  simp only [enterHandler_sp, enterHandler_cfg, hsp1, hsp2, hsp3, hread, hhigh, hlow, hstatus, restoreFlags_status, w16_hi_lo]
  rfl

/-- Settles O46: a hardware interrupt pushes PC itself and BRK the address at its offset, and the three pushes are the whole frame
of either entry. -/
theorem handlersReturnWhereTheyWereEntered : Obligations.HandlersReturnWhereTheyWereEntered := by
  intro s same
  have hrti := exec_rti_of_enterHandler true (s.pc + s.cfg.brkReturnOffset.toWord) irqVector (s.past .implied)
  refine ⟨fun vec => ⟨_, exec_rti_of_enterHandler false s.pc vec s, rfl, fun a => ?_⟩,
    ⟨_, _, exec_brk s, hrti, rfl, fun a => ?_⟩⟩
  · simpa only [State.read_def] using enterHandler_read_other false s.pc vec s (b := a)
  · simpa only [State.read_def, State.past_cfg, State.past_sp, State.past_mem] using
      enterHandler_read_other true _ irqVector (s.past .implied) (b := a)

end Sys2Proof.Machine
end

section
/-! Reset and program loading (70_reset_and_hazards.md sections 1 and 2, R280, R281 and R290). -/

namespace Sys2Proof.Machine

/-- Settles O55: Reset writes every field but memory and the parameters, and its vector is at 0xFFFC and 0xFFFD. -/
theorem resetLeavesTheStatedValues : Obligations.ResetLeavesTheStatedValues := fun _ => ⟨rfl, rfl⟩

theorem hostWrite_read_same (a : Word) (v : Byte) (s : State) : (hostWrite a v s).read a = v :=
  Memory.read_write_same _ _ _

theorem hostWrite_read_other {a b : Word} (v : Byte) (s : State) (h : b ≠ a) : (hostWrite a v s).read b = s.read b :=
  Memory.read_write_other _ _ h

theorem word_add_ofNat_succ (a : Word) (k : Nat) : a + BitVec.ofNat 16 (k + 1) = a + 1 + BitVec.ofNat 16 k := by
  rw [Nat.add_comm, BitVec.ofNat_add, ← BitVec.add_assoc]; rfl

/-- Fewer than 65536 bytes on, an address does not come back to itself. -/
theorem word_add_ofNat_ne (a : Word) {k : Nat} (h0 : 0 < k) (h : k < 65536) : a + BitVec.ofNat 16 k ≠ a := by
  bv_omega

/-- Copying an image leaves every address but those it is copied to. -/
theorem hostCopy_read_other {image : List Byte} {offset : Word} {s : State} {a : Word}
    (h : ∀ k < image.length, a ≠ offset + BitVec.ofNat 16 k) : (hostCopy image offset s).read a = s.read a := by
  induction image generalizing offset s with
  | nil => rfl
  | cons v vs ih =>
    have h0 : a ≠ offset := by simpa only [BitVec.add_zero] using h 0 (Nat.succ_pos _)
    have hrest : ∀ k < vs.length, a ≠ offset + 1 + BitVec.ofNat 16 k := fun k hk => by
      rw [← word_add_ofNat_succ]; exact h (k + 1) (Nat.succ_lt_succ hk)
    rw [hostCopy, ih hrest, hostWrite_read_other v s h0]

/-- An image of up to 65536 bytes overwrites none of its own: the k-th stands k above the first. -/
theorem hostCopy_read {image : List Byte} {offset : Word} {s : State} {k : Nat} {v : Byte} (hlen : image.length ≤ 65536)
    (hv : image[k]? = some v) : (hostCopy image offset s).read (offset + BitVec.ofNat 16 k) = v := by
  induction image generalizing offset s k with
  | nil => cases hv
  | cons w vs ih =>
    cases k with
    | zero =>
      obtain rfl : w = v := Option.some.inj hv
      have hother : ∀ j < vs.length, offset ≠ offset + 1 + BitVec.ofNat 16 j := fun j hj => by
        rw [← word_add_ofNat_succ]
        exact (word_add_ofNat_ne offset (Nat.succ_pos j) (Nat.lt_of_lt_of_le (Nat.succ_lt_succ hj) hlen)).symm
      rw [BitVec.add_zero, hostCopy, hostCopy_read_other hother, hostWrite_read_same]
    | succ k =>
      rw [word_add_ofNat_succ]
      exact ih (Nat.le_of_succ_le hlen) hv

/-- Reset does not write memory (R281). -/
theorem hostReset_read (s : State) (a : Word) : (hostReset s).read a = s.read a := rfl

theorem hostLoad_read_vector (image : List Byte) (offset entry : Word) (s : State) :
    (hostLoad image offset entry s).read resetVector = lo entry ∧
      (hostLoad image offset entry s).read (resetVector + 1) = hi entry := by
  rw [hostLoad, hostReset_read, hostReset_read]
  exact ⟨(hostWrite_read_other _ _ (by decide)).trans (hostWrite_read_same _ _ _), hostWrite_read_same _ _ _⟩

/-- Everywhere but at the vector a loaded memory is the copied one. -/
theorem hostLoad_read_other (image : List Byte) (offset entry : Word) (s : State) {a : Word} (h0 : a ≠ 0xFFFC)
    (h1 : a ≠ 0xFFFD) : (hostLoad image offset entry s).read a = (hostCopy image offset s).read a := by
  rw [hostLoad, hostReset_read]
  exact (hostWrite_read_other _ _ h1).trans (hostWrite_read_other _ _ h0)

theorem hostLoad_pc (image : List Byte) (offset entry : Word) (s : State) :
    (hostLoad image offset entry s).pc = entry := by
  obtain ⟨hlow, hhigh⟩ := hostLoad_read_vector image offset entry s
  calc (hostLoad image offset entry s).pc
      = w16 ((hostLoad image offset entry s).read (resetVector + 1)) ((hostLoad image offset entry s).read resetVector) := rfl
    _ = entry := by rw [hlow, hhigh, w16_hi_lo]

/-- Settles O56: the vector is written last and Reset reads it; away from it the image is as copied. -/
theorem loadedProgramsStartAtTheirEntry : Obligations.LoadedProgramsStartAtTheirEntry := by
  intro image offset entry s
  obtain ⟨hlow, hhigh⟩ := hostLoad_read_vector image offset entry s
  refine ⟨hostLoad_pc image offset entry s, hlow, hhigh, fun a h0 h1 ha => ?_, fun hend k hk h0 h1 => ?_⟩
  · rw [hostLoad_read_other image offset entry s h0 h1, hostCopy_read_other ha]
  · have haddr : (BitVec.ofNat 16 (offset.toNat + k)).toNat = offset.toNat + k := by
      rw [BitVec.toNat_ofNat]; omega
    have ne_of {w : Word} (h : offset.toNat + k ≠ w.toNat) : BitVec.ofNat 16 (offset.toNat + k) ≠ w :=
      fun e => h (haddr.symm.trans (congrArg BitVec.toNat e))
    have hv : image[k]? = some image[k] := List.getElem?_eq_getElem hk
    rw [hostLoad_read_other image offset entry s (ne_of h0) (ne_of h1), BitVec.ofNat_add, BitVec.ofNat_toNat,
      BitVec.setWidth_eq, hostCopy_read (by omega) hv, hv]

end Sys2Proof.Machine
end
